-- ==== Sys2Proof/Word.lean ====
section
/-! DEFINITION. The two widths of the machine (10_state.md R20): 8-bit registers and memory bytes, and
16-bit addresses. Byte-order and sign-extension helpers stand in Machine/Bytes.lean. -/

namespace Sys2Proof

/-- The 8-bit quantities: A, X, Y, S, a memory byte, an operand byte `nn` or `dd` (10_state.md R20). -/
abbrev Byte := BitVec 8

/-- The 16-bit quantities: PC, an address, the operand `nnnn` (10_state.md R20, 20_memory.md R60). -/
abbrev Word := BitVec 16

end Sys2Proof
end

