-- ==== Sys2Proof/Machine/Bytes.lean ====
section
/-! DEFINITION. Byte order, halves of a word, zero and sign extension: the bit-field helpers that the decoder
and the machine share. -/

namespace Sys2Proof

/-- The word whose low byte is `lo` and whose high byte is `hi` (20_memory.md R63). -/
def wordOf (lo hi : Byte) : Word := hi ++ lo

/-- Bits 7 to 0 of a word. -/
def loByte (w : Word) : Byte := w.extractLsb' 0 8

/-- Bits 15 to 8 of a word: the page (20_memory.md R61). -/
def hiByte (w : Word) : Byte := w.extractLsb' 8 8

/-- `zext_16` (00_scope.md R9). -/
def zext16 (v : Byte) : Word := v.setWidth 16

/-- `sext_16` (00_scope.md R9). -/
def sext16 (v : Byte) : Word := v.signExtend 16

end Sys2Proof
end

