-- ==== Sys2Proof/Config.lean ====
section
/-! DEFINITION. What an implementation or a platform fixes (00_scope.md R5), and the free values: constants
without a body, of which nothing can be proved, standing where the spec leaves a value open. -/

namespace Sys2Proof

/-- `DECIMAL_MODE` (00_scope.md R5, 92_eei_decisions.md D7): whether flag D changes ADC and SBC. -/
inductive DecimalMode where
  /-- Every part of 00_scope.md R1. -/
  | supported
  /-- The 2A03 (00_scope.md R3). -/
  | ignored
  deriving DecidableEq, Repr

/-- `ADDR_LINES` (00_scope.md R5, 20_memory.md R67): how many address lines reach the platform. -/
inductive AddrLines where
  | sixteen
  /-- The 6507. -/
  | thirteen
  deriving DecidableEq, Repr

/-- `LAX_BF_INDEX` (00_scope.md R5, 92_eei_decisions.md D21): the index register of opcode BF. -/
inductive LaxIndex where
  /-- As the source prints it. -/
  | x
  | y
  deriving DecidableEq, Repr

/-- `IRQ_LATENCY` (60_exceptions.md R325, 92_eei_decisions.md D12). -/
inductive IrqLatency where
  /-- A change of I counts at the very next boundary. -/
  | immediate
  /-- Directly after CLI, SEI or PLP the old or the new I may count. -/
  | either
  deriving DecidableEq, Repr

/-- What stands at an address, as the platform's `MEM_MAP` says (20_memory.md R66). -/
inductive StoreKind where
  | ram
  /-- Reads as memory; a write leaves it as it is (log 12). -/
  | rom
  /-- A device register, or nothing: the environment answers reads and takes writes (log 11). -/
  | device
  deriving DecidableEq, Repr

/-- One line of `MEM_MAP`: the addresses `base` to `base + size - 1` as the platform sees them. -/
structure Region where
  base : Nat
  size : Nat
  kind : StoreKind
  deriving DecidableEq, Repr

/-- The parameters of 00_scope.md R5. `ADMIT_ILLEGAL` is not among them: this model gives every illegal
opcode a meaning (log 29). `BCD_FN` is the free values (log 21); `END_OF_RUN` is in Safety.lean (log 36). -/
structure Config where
  /-- `DECIMAL_MODE`. -/
  decimal : DecimalMode
  /-- `ADDR_LINES`. -/
  addrLines : AddrLines
  /-- `HAS_IRQ_PIN`. -/
  irqPin : Bool
  /-- `HAS_NMI_PIN`. -/
  nmiPin : Bool
  /-- `HAS_IO_PORT`: addresses 0000h and 0001h are a port of the chip. -/
  ioPort : Bool
  /-- `HAS_ROR`. -/
  hasRor : Bool
  /-- `MEM_MAP`: the first region that holds an address says what is there; an address in none is
  unpopulated, which is `StoreKind.device`. -/
  memMap : List Region
  /-- `LAX_BF_INDEX`. -/
  laxBfIndex : LaxIndex
  /-- `IRQ_LATENCY`. -/
  irqLatency : IrqLatency
  deriving DecidableEq, Repr

/-- RAM at every address: the `MEM_MAP` this model starts from (log 10). -/
def Config.allRam : List Region := [⟨0, 0x10000, .ram⟩]

/-- The 6502 itself (00_scope.md R1, R5): also the 6501, and the 8502 in all that the spec states of it. -/
def Config.part6502 : Config where
  decimal := .supported
  addrLines := .sixteen
  irqPin := true
  nmiPin := true
  ioPort := false
  hasRor := true
  memMap := Config.allRam
  laxBfIndex := .x
  irqLatency := .either

/-- The 6507: 13 address lines, no /IRQ, no /NMI (00_scope.md R1, R5). -/
def Config.part6507 : Config :=
  { Config.part6502 with addrLines := .thirteen, irqPin := false, nmiPin := false }

/-- The 6510 and the 8500: the port at 0000h and 0001h (00_scope.md R5, 20_memory.md R66). -/
def Config.part6510 : Config := { Config.part6502 with ioPort := true }

/-- The 2A03 of the NES: no decimal mode (00_scope.md R3). -/
def Config.part2A03 : Config := { Config.part6502 with decimal := .ignored }

/-- Which open value of a step is meant: one name for each, so that no two open values of one step are the
same constant. -/
inductive FreeName where
  | a
  | x
  | y
  | sp
  | n
  | v
  | z
  | c
  | d
  /-- The byte an unstable store writes (44_illegal_opcodes.md R263). -/
  | stored
  /-- The address an unstable store writes when it crosses a page (44_illegal_opcodes.md R263). -/
  | address
  /-- Whether the IRQ test sees the old I (60_exceptions.md R325). -/
  | irqTest
  deriving DecidableEq, Repr

/-- What a memory access is for. It tells apart the reads of one step, so that each read of a device has an
answer of its own. -/
inductive AccessKind where
  | opcode
  | operand
  | pointer
  | data
  | stack
  | vector
  deriving DecidableEq, Repr

/-- The free bit `name` of the step that runs at counter `tick` (log 6). -/
opaque Config.freeBit : Nat → FreeName → Bool

/-- The free byte `name` of the step that runs at counter `tick` (log 6). -/
opaque Config.freeByte : Nat → FreeName → Byte

/-- The free 16-bit value `name` of the step that runs at counter `tick` (log 6). -/
opaque Config.freeWord : Nat → FreeName → Word

/-- What the environment answers when the step at counter `tick` reads a device or unpopulated location. It sees
the location alone: the address lines a part does not drive cannot change the answer (20_memory.md R67,
92_eei_decisions.md D20, log 11). -/
opaque Config.deviceByte : Nat → AccessKind → Nat → Byte

end Sys2Proof
end

