-- ==== Sys2Proof/Machine/State.lean ====
section
/-! DEFINITION. The state of the machine as plain data: the spec's registers and flags (10_state.md R20 to
R46), memory (20_memory.md R60), the environment's lines and the pin changes still to come, and the model's own
fields; the reasons a step can stop; the state after reset. -/

namespace Sys2Proof.Machine

/-- The level of an input line (10_state.md R43). The lines are active LOW. -/
inductive Level where
  | low
  | high
  deriving DecidableEq, Repr

/-- The three input lines (10_state.md R43, 60_exceptions.md R310). -/
inductive Line where
  | irq
  | nmi
  | reset
  deriving DecidableEq, Repr

/-- The levels of the three lines now. -/
structure Lines where
  irq : Level
  nmi : Level
  reset : Level
  deriving DecidableEq, Repr

/-- The environment drives one line to a level. -/
structure PinChange where
  line : Line
  level : Level
  deriving DecidableEq, Repr

/-- The six stored flags of P (10_state.md R29, R37). B and bit 5 are not state. -/
@[ext]
structure Flags where
  /-- Negative, bit 7 (10_state.md R32). -/
  n : Bool
  /-- Overflow, bit 6 (10_state.md R33). -/
  v : Bool
  /-- Decimal mode, bit 3 (10_state.md R36). -/
  d : Bool
  /-- IRQ disable, bit 2 (10_state.md R35). -/
  i : Bool
  /-- Zero, bit 1 (10_state.md R31). -/
  z : Bool
  /-- Carry, bit 0 (10_state.md R30). -/
  c : Bool
  deriving DecidableEq, Repr

/-- One access the environment can see (00_scope.md R10): the location on the address lines that the part drives
(20_memory.md R67) and the byte that passes. -/
inductive BusAccess where
  | rd (loc : Nat) (value : Byte)
  | wr (loc : Nat) (value : Byte)
  deriving DecidableEq, Repr

/-- Memory: the listed bytes by location, in one canonical form (`Memory.wf`). -/
abbrev Memory := List Host.Cell

/-- What a location that is not listed reads as: the spec gives RAM no value at power-on. DESIGN CHOICE, unsafe
(log 9). -/
def Memory.unlisted : Byte := 0x00

/-- The canonical form: locations strictly rising, and no listed byte equal to what an unlisted one reads as. -/
abbrev Memory.wf (m : Memory) : Prop :=
  m.Pairwise (fun p q => p.1 < q.1) ∧ ∀ cell ∈ m, cell.2 ≠ Memory.unlisted

/-- The state of the machine. -/
@[ext]
structure State where
  /-- A, the accumulator (10_state.md R21). -/
  a : Byte
  /-- X, index register (10_state.md R22). -/
  x : Byte
  /-- Y, index register (10_state.md R23). -/
  y : Byte
  /-- S, the stack pointer (10_state.md R26). -/
  sp : Byte
  /-- PC, the program counter (10_state.md R24). -/
  pc : Word
  /-- The flags of P (10_state.md R29). -/
  p : Flags
  /-- The latch of a falling edge of /NMI (10_state.md R44). -/
  nmiPending : Bool
  /-- Set by KIL, cleared by RESET (10_state.md R44). -/
  halted : Bool
  /-- Memory, by the location the platform sees (20_memory.md R60, R67). -/
  mem : Memory
  /-- The environment's: the levels of the lines (10_state.md R43, log 14). -/
  lines : Lines
  /-- The environment's: what it does to the lines before each boundary to come, first boundary first; one
  boundary takes one entry, in the entry's order (log 14). -/
  inputs : List (List PinChange)
  /-- The model's: the I before the last step, when that step was CLI, SEI or PLP (60_exceptions.md R325,
  log 17). -/
  lateI : Option Bool
  /-- The model's: the counter the free values are read from (log 6). -/
  tick : Nat
  /-- The model's: the accesses of this step so far, or of the step just taken, in order (20_memory.md R68,
  log 30). -/
  bus : List BusAccess
  /-- The model's: the parameters of the part and the platform (00_scope.md R5, log 32). -/
  cfg : Config
  deriving DecidableEq, Repr

/-- Why the machine stops with a fault. -/
inductive Fault where
  /-- Raised by `step` alone, when the CPU is halted by KIL, /RESET is not LOW and the environment has no pin
  change left: no step is enabled (60_exceptions.md R320, log 18). Safe: the machine stops where the hardware
  stays halted. -/
  | stuck
  deriving DecidableEq, Repr

/-- Why the model gives no meaning. -/
inductive Refusal where
  /-- An instruction without a meaning, refused in its arm of `exec`. Safe: the model stops. -/
  | notModelled (mnemonic : String)
  /-- Raised by the five ROR opcodes on a part with `HAS_ROR = false` (42_rotate_shift.md R185, log 28). Safe:
  the model stops. -/
  | rorAbsent
  deriving DecidableEq, Repr

/-- The outcome of an instruction or a step. -/
abbrev Out := Host.Outcome State Fault Refusal

/-- The machine right after power-on and `Reset()` (10_state.md R45, 70_reset_and_hazards.md R340, R342): I is 1,
`halted` and `nmi_pending` are 0, PC is the word at FFFCh, which in a memory that lists nothing is 0000h. The spec
gives A, X, Y, S and the flags C, Z, D, V, N no value: the zeros here are DESIGN CHOICE, unsafe (log 7). Lines
HIGH, no pin change to come (log 14), the plain 6502 with RAM everywhere (log 32, log 10). -/
def State.reset : State where
  a := 0x00
  x := 0x00
  y := 0x00
  sp := 0x00
  pc := 0x0000
  p := { n := false, v := false, d := false, i := true, z := false, c := false }
  nmiPending := false
  halted := false
  mem := []
  lines := { irq := .high, nmi := .high, reset := .high }
  inputs := []
  lateI := none
  tick := 0
  bus := []
  cfg := Config.part6502

end Sys2Proof.Machine
end

