-- ==== Sys2Proof/Machine/Flags.lean ====
section
/-! DEFINITION. Every flag computation of the spec: N and Z of a value, the pushed and the pulled status byte,
addition and subtraction in binary and in decimal, comparison, and the four one-bit shifts. Arithmetic is done
exactly on Nat or Int and narrowed at the end. -/

namespace Sys2Proof.Machine

/-- `SetNZ(v)` (10_state.md R34). -/
def Flags.setNZ (f : Flags) (v : Byte) : Flags :=
  { f with n := v.getLsbD 7, z := decide (v = 0) }

/-- `C <- c`. -/
def Flags.setC (f : Flags) (c : Bool) : Flags := { f with c := c }

/-- The bit `b` in position `k` of a byte. -/
def bitAt (b : Bool) (k : Nat) : Byte := if b then 1 <<< k else 0

/-- `PByte(b)`: the byte pushed when P goes to the stack. Bit 5 is 1, bit 4 is `b` (10_state.md R38). -/
def Flags.pByte (f : Flags) (b : Bool) : Byte :=
  bitAt f.n 7 ||| bitAt f.v 6 ||| bitAt true 5 ||| bitAt b 4 ||| bitAt f.d 3 ||| bitAt f.i 2 ||| bitAt f.z 1 |||
    bitAt f.c 0

/-- `SetP(v)`: the flags of a pulled byte; bits 5 and 4 are ignored (10_state.md R39). -/
def Flags.ofByte (v : Byte) : Flags where
  n := v.getLsbD 7
  v := v.getLsbD 6
  d := v.getLsbD 3
  i := v.getLsbD 2
  z := v.getLsbD 1
  c := v.getLsbD 0

/-- The result of an addition or a subtraction with its carry and overflow. -/
structure Sum where
  value : Byte
  carry : Bool
  overflow : Bool
  deriving DecidableEq, Repr

/-- The 8-bit sum with carry, carry out of bit 7, signed overflow (41_arithmetic_logical.md R151). -/
def addBinary (a m : Byte) (c : Bool) : Sum :=
  let s := a.toNat + m.toNat + c.toNat
  let r := BitVec.ofNat 8 s
  { value := r
    carry := decide (0xFF < s)
    overflow := a.getLsbD 7 == m.getLsbD 7 && r.getLsbD 7 != a.getLsbD 7 }

/-- The 8-bit difference with borrow; carry is 1 when nothing was borrowed (41_arithmetic_logical.md R153). -/
def subBinary (a m : Byte) (c : Bool) : Sum :=
  let d : Int := (a.toNat : Int) - m.toNat - (1 - c.toNat)
  let r := BitVec.ofInt 8 d
  { value := r
    carry := decide (0 ≤ d)
    overflow := a.getLsbD 7 != m.getLsbD 7 && r.getLsbD 7 != a.getLsbD 7 }

/-- `dec(x)` (41_arithmetic_logical.md R169). -/
def decOf (x : Byte) : Nat := 10 * (x.toNat / 16) + x.toNat % 16

/-- `bcd(t)`, for t up to 99 (41_arithmetic_logical.md R169). -/
def bcdOf (t : Nat) : Byte := BitVec.ofNat 8 (t / 10 * 16 + t % 10)

/-- Both digits of the byte are in 0 to 9 (41_arithmetic_logical.md R169). -/
def isBcd (x : Byte) : Bool := decide (x.toNat / 16 ≤ 9) && decide (x.toNat % 16 ≤ 9)

/-- A decimal result with its carry; N, V and Z are not the spec's to give (41_arithmetic_logical.md R169). -/
structure DecimalSum where
  value : Byte
  carry : Bool
  deriving DecidableEq, Repr

/-- The decimal sum of two packed BCD bytes with carry (41_arithmetic_logical.md R169). -/
def addDecimal (a m : Byte) (c : Bool) : DecimalSum :=
  let t := decOf a + decOf m + c.toNat
  { value := bcdOf (t % 100), carry := decide (100 ≤ t) }

/-- The decimal difference of two packed BCD bytes with borrow (41_arithmetic_logical.md R170). -/
def subDecimal (a m : Byte) (c : Bool) : DecimalSum :=
  let t : Int := (decOf a : Int) - decOf m - (1 - c.toNat)
  { value := bcdOf (t % 100).toNat, carry := decide (0 ≤ t) }

/-- The flags after `Compare(r, m)`: C is the unsigned `r ≥ m`, N and Z are those of the difference
(41_arithmetic_logical.md R158). -/
def Flags.compare (f : Flags) (r m : Byte) : Flags :=
  (f.setC (decide (m.toNat ≤ r.toNat))).setNZ (r - m)

/-- The flags after BIT: Z from the AND, N and V from the operand (41_arithmetic_logical.md R162). -/
def Flags.bitTest (f : Flags) (a m : Byte) : Flags :=
  { f with n := m.getLsbD 7, v := m.getLsbD 6, z := decide (a &&& m = 0) }

/-- The result of a one-bit shift or rotate with the bit that went out. -/
structure Shifted where
  value : Byte
  carry : Bool
  deriving DecidableEq, Repr

/-- `Shl(v)` (42_rotate_shift.md R180); the old carry is not read. -/
def shl (v : Byte) (_c : Bool) : Shifted := { value := v <<< 1, carry := v.getLsbD 7 }

/-- `Shr(v)` (42_rotate_shift.md R180); the old carry is not read. -/
def shr (v : Byte) (_c : Bool) : Shifted := { value := v >>> 1, carry := v.getLsbD 0 }

/-- `Rcl(v)`: the old carry enters bit 0 (42_rotate_shift.md R180). -/
def rcl (v : Byte) (c : Bool) : Shifted := { value := v <<< 1 ||| bitAt c 0, carry := v.getLsbD 7 }

/-- `Rcr(v)`: the old carry enters bit 7 (42_rotate_shift.md R180). -/
def rcr (v : Byte) (c : Bool) : Shifted := { value := bitAt c 7 ||| v >>> 1, carry := v.getLsbD 0 }

end Sys2Proof.Machine
end

