-- ==== Sys2Proof/Syntax.lean ====
section
/-! DEFINITION. The instruction set as syntax: one constructor for each of the 256 rows of
spec/opcode_table.json (30_encoding.md R108): first the rows with an operand, then those without, each in the
order of the opcode byte (Lean's runtime numbers at most 244 constructors that hold data). The constructor's name is the
mnemonic and the operand form; where one mnemonic has several opcode bytes of one form (the illegal NOPs, KIL,
ANC, the second SBC #nn) it ends in the opcode byte. Operands: `nn` one byte, `dd` the signed displacement
byte, `nnnn` the 16-bit operand (30_encoding.md R91, R92). -/

namespace Sys2Proof

/-- An instruction of the 6502: each of the 256 opcode bytes with its operand (30_encoding.md R90, R108). -/
inductive Instr where
  /-- `01 nn`, `ORA (nn,X)` (R157). -/
  | oraIzx (nn : Byte)
  /-- `03 nn`, `SLO (nn,X)`, illegal (R234). -/
  | sloIzx (nn : Byte)
  /-- `04 nn`, `NOP nn`, illegal (R268). -/
  | nopZp04 (nn : Byte)
  /-- `05 nn`, `ORA nn` (R157). -/
  | oraZp (nn : Byte)
  /-- `06 nn`, `ASL nn` (R181). -/
  | aslZp (nn : Byte)
  /-- `07 nn`, `SLO nn`, illegal (R234). -/
  | sloZp (nn : Byte)
  /-- `09 nn`, `ORA #nn` (R157). -/
  | oraImm (nn : Byte)
  /-- `0B nn`, `ANC #nn`, illegal (R255). -/
  | anc0B (nn : Byte)
  /-- `0C lo hi`, `NOP nnnn`, illegal (R268). -/
  | nopAbs0C (nnnn : Word)
  /-- `0D lo hi`, `ORA nnnn` (R157). -/
  | oraAbs (nnnn : Word)
  /-- `0E lo hi`, `ASL nnnn` (R181). -/
  | aslAbs (nnnn : Word)
  /-- `0F lo hi`, `SLO nnnn`, illegal (R234). -/
  | sloAbs (nnnn : Word)
  /-- `10 dd`, `BPL disp` (R197). -/
  | bpl (dd : Byte)
  /-- `11 nn`, `ORA (nn),Y` (R157). -/
  | oraIzy (nn : Byte)
  /-- `13 nn`, `SLO (nn),Y`, illegal (R234). -/
  | sloIzy (nn : Byte)
  /-- `14 nn`, `NOP nn,X`, illegal (R268). -/
  | nopZpx14 (nn : Byte)
  /-- `15 nn`, `ORA nn,X` (R157). -/
  | oraZpx (nn : Byte)
  /-- `16 nn`, `ASL nn,X` (R181). -/
  | aslZpx (nn : Byte)
  /-- `17 nn`, `SLO nn,X`, illegal (R234). -/
  | sloZpx (nn : Byte)
  /-- `19 lo hi`, `ORA nnnn,Y` (R157). -/
  | oraAby (nnnn : Word)
  /-- `1B lo hi`, `SLO nnnn,Y`, illegal (R234). -/
  | sloAby (nnnn : Word)
  /-- `1C lo hi`, `NOP nnnn,X`, illegal (R268). -/
  | nopAbx1C (nnnn : Word)
  /-- `1D lo hi`, `ORA nnnn,X` (R157). -/
  | oraAbx (nnnn : Word)
  /-- `1E lo hi`, `ASL nnnn,X` (R181). -/
  | aslAbx (nnnn : Word)
  /-- `1F lo hi`, `SLO nnnn,X`, illegal (R234). -/
  | sloAbx (nnnn : Word)
  /-- `20 lo hi`, `JSR nnnn` (R193). -/
  | jsr (nnnn : Word)
  /-- `21 nn`, `AND (nn,X)` (R155). -/
  | andIzx (nn : Byte)
  /-- `23 nn`, `RLA (nn,X)`, illegal (R235). -/
  | rlaIzx (nn : Byte)
  /-- `24 nn`, `BIT nn` (R162). -/
  | bitZp (nn : Byte)
  /-- `25 nn`, `AND nn` (R155). -/
  | andZp (nn : Byte)
  /-- `26 nn`, `ROL nn` (R183). -/
  | rolZp (nn : Byte)
  /-- `27 nn`, `RLA nn`, illegal (R235). -/
  | rlaZp (nn : Byte)
  /-- `29 nn`, `AND #nn` (R155). -/
  | andImm (nn : Byte)
  /-- `2B nn`, `ANC #nn`, illegal (R255). -/
  | anc2B (nn : Byte)
  /-- `2C lo hi`, `BIT nnnn` (R162). -/
  | bitAbs (nnnn : Word)
  /-- `2D lo hi`, `AND nnnn` (R155). -/
  | andAbs (nnnn : Word)
  /-- `2E lo hi`, `ROL nnnn` (R183). -/
  | rolAbs (nnnn : Word)
  /-- `2F lo hi`, `RLA nnnn`, illegal (R235). -/
  | rlaAbs (nnnn : Word)
  /-- `30 dd`, `BMI disp` (R198). -/
  | bmi (dd : Byte)
  /-- `31 nn`, `AND (nn),Y` (R155). -/
  | andIzy (nn : Byte)
  /-- `33 nn`, `RLA (nn),Y`, illegal (R235). -/
  | rlaIzy (nn : Byte)
  /-- `34 nn`, `NOP nn,X`, illegal (R268). -/
  | nopZpx34 (nn : Byte)
  /-- `35 nn`, `AND nn,X` (R155). -/
  | andZpx (nn : Byte)
  /-- `36 nn`, `ROL nn,X` (R183). -/
  | rolZpx (nn : Byte)
  /-- `37 nn`, `RLA nn,X`, illegal (R235). -/
  | rlaZpx (nn : Byte)
  /-- `39 lo hi`, `AND nnnn,Y` (R155). -/
  | andAby (nnnn : Word)
  /-- `3B lo hi`, `RLA nnnn,Y`, illegal (R235). -/
  | rlaAby (nnnn : Word)
  /-- `3C lo hi`, `NOP nnnn,X`, illegal (R268). -/
  | nopAbx3C (nnnn : Word)
  /-- `3D lo hi`, `AND nnnn,X` (R155). -/
  | andAbx (nnnn : Word)
  /-- `3E lo hi`, `ROL nnnn,X` (R183). -/
  | rolAbx (nnnn : Word)
  /-- `3F lo hi`, `RLA nnnn,X`, illegal (R235). -/
  | rlaAbx (nnnn : Word)
  /-- `41 nn`, `EOR (nn,X)` (R156). -/
  | eorIzx (nn : Byte)
  /-- `43 nn`, `SRE (nn,X)`, illegal (R236). -/
  | sreIzx (nn : Byte)
  /-- `44 nn`, `NOP nn`, illegal (R268). -/
  | nopZp44 (nn : Byte)
  /-- `45 nn`, `EOR nn` (R156). -/
  | eorZp (nn : Byte)
  /-- `46 nn`, `LSR nn` (R182). -/
  | lsrZp (nn : Byte)
  /-- `47 nn`, `SRE nn`, illegal (R236). -/
  | sreZp (nn : Byte)
  /-- `49 nn`, `EOR #nn` (R156). -/
  | eorImm (nn : Byte)
  /-- `4B nn`, `ALR #nn`, illegal (R256). -/
  | alr (nn : Byte)
  /-- `4C lo hi`, `JMP nnnn` (R191). -/
  | jmpAbs (nnnn : Word)
  /-- `4D lo hi`, `EOR nnnn` (R156). -/
  | eorAbs (nnnn : Word)
  /-- `4E lo hi`, `LSR nnnn` (R182). -/
  | lsrAbs (nnnn : Word)
  /-- `4F lo hi`, `SRE nnnn`, illegal (R236). -/
  | sreAbs (nnnn : Word)
  /-- `50 dd`, `BVC disp` (R199). -/
  | bvc (dd : Byte)
  /-- `51 nn`, `EOR (nn),Y` (R156). -/
  | eorIzy (nn : Byte)
  /-- `53 nn`, `SRE (nn),Y`, illegal (R236). -/
  | sreIzy (nn : Byte)
  /-- `54 nn`, `NOP nn,X`, illegal (R268). -/
  | nopZpx54 (nn : Byte)
  /-- `55 nn`, `EOR nn,X` (R156). -/
  | eorZpx (nn : Byte)
  /-- `56 nn`, `LSR nn,X` (R182). -/
  | lsrZpx (nn : Byte)
  /-- `57 nn`, `SRE nn,X`, illegal (R236). -/
  | sreZpx (nn : Byte)
  /-- `59 lo hi`, `EOR nnnn,Y` (R156). -/
  | eorAby (nnnn : Word)
  /-- `5B lo hi`, `SRE nnnn,Y`, illegal (R236). -/
  | sreAby (nnnn : Word)
  /-- `5C lo hi`, `NOP nnnn,X`, illegal (R268). -/
  | nopAbx5C (nnnn : Word)
  /-- `5D lo hi`, `EOR nnnn,X` (R156). -/
  | eorAbx (nnnn : Word)
  /-- `5E lo hi`, `LSR nnnn,X` (R182). -/
  | lsrAbx (nnnn : Word)
  /-- `5F lo hi`, `SRE nnnn,X`, illegal (R236). -/
  | sreAbx (nnnn : Word)
  /-- `61 nn`, `ADC (nn,X)` (R152). -/
  | adcIzx (nn : Byte)
  /-- `63 nn`, `RRA (nn,X)`, illegal (R237). -/
  | rraIzx (nn : Byte)
  /-- `64 nn`, `NOP nn`, illegal (R268). -/
  | nopZp64 (nn : Byte)
  /-- `65 nn`, `ADC nn` (R152). -/
  | adcZp (nn : Byte)
  /-- `66 nn`, `ROR nn` (R184). -/
  | rorZp (nn : Byte)
  /-- `67 nn`, `RRA nn`, illegal (R237). -/
  | rraZp (nn : Byte)
  /-- `69 nn`, `ADC #nn` (R152). -/
  | adcImm (nn : Byte)
  /-- `6B nn`, `ARR #nn`, illegal (R258). -/
  | arr (nn : Byte)
  /-- `6C lo hi`, `JMP (nnnn)` (R192). -/
  | jmpInd (nnnn : Word)
  /-- `6D lo hi`, `ADC nnnn` (R152). -/
  | adcAbs (nnnn : Word)
  /-- `6E lo hi`, `ROR nnnn` (R184). -/
  | rorAbs (nnnn : Word)
  /-- `6F lo hi`, `RRA nnnn`, illegal (R237). -/
  | rraAbs (nnnn : Word)
  /-- `70 dd`, `BVS disp` (R200). -/
  | bvs (dd : Byte)
  /-- `71 nn`, `ADC (nn),Y` (R152). -/
  | adcIzy (nn : Byte)
  /-- `73 nn`, `RRA (nn),Y`, illegal (R237). -/
  | rraIzy (nn : Byte)
  /-- `74 nn`, `NOP nn,X`, illegal (R268). -/
  | nopZpx74 (nn : Byte)
  /-- `75 nn`, `ADC nn,X` (R152). -/
  | adcZpx (nn : Byte)
  /-- `76 nn`, `ROR nn,X` (R184). -/
  | rorZpx (nn : Byte)
  /-- `77 nn`, `RRA nn,X`, illegal (R237). -/
  | rraZpx (nn : Byte)
  /-- `79 lo hi`, `ADC nnnn,Y` (R152). -/
  | adcAby (nnnn : Word)
  /-- `7B lo hi`, `RRA nnnn,Y`, illegal (R237). -/
  | rraAby (nnnn : Word)
  /-- `7C lo hi`, `NOP nnnn,X`, illegal (R268). -/
  | nopAbx7C (nnnn : Word)
  /-- `7D lo hi`, `ADC nnnn,X` (R152). -/
  | adcAbx (nnnn : Word)
  /-- `7E lo hi`, `ROR nnnn,X` (R184). -/
  | rorAbx (nnnn : Word)
  /-- `7F lo hi`, `RRA nnnn,X`, illegal (R237). -/
  | rraAbx (nnnn : Word)
  /-- `80 nn`, `NOP #nn`, illegal (R268). -/
  | nopImm80 (nn : Byte)
  /-- `81 nn`, `STA (nn,X)` (R140). -/
  | staIzx (nn : Byte)
  /-- `82 nn`, `NOP #nn`, illegal (R268). -/
  | nopImm82 (nn : Byte)
  /-- `83 nn`, `SAX (nn,X)`, illegal (R231). -/
  | saxIzx (nn : Byte)
  /-- `84 nn`, `STY nn` (R142). -/
  | styZp (nn : Byte)
  /-- `85 nn`, `STA nn` (R140). -/
  | staZp (nn : Byte)
  /-- `86 nn`, `STX nn` (R141). -/
  | stxZp (nn : Byte)
  /-- `87 nn`, `SAX nn`, illegal (R231). -/
  | saxZp (nn : Byte)
  /-- `89 nn`, `NOP #nn`, illegal (R268). -/
  | nopImm89 (nn : Byte)
  /-- `8B nn`, `XAA #nn`, illegal (R259). -/
  | xaa (nn : Byte)
  /-- `8C lo hi`, `STY nnnn` (R142). -/
  | styAbs (nnnn : Word)
  /-- `8D lo hi`, `STA nnnn` (R140). -/
  | staAbs (nnnn : Word)
  /-- `8E lo hi`, `STX nnnn` (R141). -/
  | stxAbs (nnnn : Word)
  /-- `8F lo hi`, `SAX nnnn`, illegal (R231). -/
  | saxAbs (nnnn : Word)
  /-- `90 dd`, `BCC disp` (R201). -/
  | bcc (dd : Byte)
  /-- `91 nn`, `STA (nn),Y` (R140). -/
  | staIzy (nn : Byte)
  /-- `93 nn`, `AHX (nn),Y`, illegal (R263). -/
  | ahxIzy (nn : Byte)
  /-- `94 nn`, `STY nn,X` (R142). -/
  | styZpx (nn : Byte)
  /-- `95 nn`, `STA nn,X` (R140). -/
  | staZpx (nn : Byte)
  /-- `96 nn`, `STX nn,Y` (R141). -/
  | stxZpy (nn : Byte)
  /-- `97 nn`, `SAX nn,Y`, illegal (R231). -/
  | saxZpy (nn : Byte)
  /-- `99 lo hi`, `STA nnnn,Y` (R140). -/
  | staAby (nnnn : Word)
  /-- `9B lo hi`, `TAS nnnn,Y`, illegal (R266). -/
  | tas (nnnn : Word)
  /-- `9C lo hi`, `SHY nnnn,X`, illegal (R264). -/
  | shy (nnnn : Word)
  /-- `9D lo hi`, `STA nnnn,X` (R140). -/
  | staAbx (nnnn : Word)
  /-- `9E lo hi`, `SHX nnnn,Y`, illegal (R265). -/
  | shx (nnnn : Word)
  /-- `9F lo hi`, `AHX nnnn,Y`, illegal (R263). -/
  | ahxAby (nnnn : Word)
  /-- `A0 nn`, `LDY #nn` (R139). -/
  | ldyImm (nn : Byte)
  /-- `A1 nn`, `LDA (nn,X)` (R137). -/
  | ldaIzx (nn : Byte)
  /-- `A2 nn`, `LDX #nn` (R138). -/
  | ldxImm (nn : Byte)
  /-- `A3 nn`, `LAX (nn,X)`, illegal (R232). -/
  | laxIzx (nn : Byte)
  /-- `A4 nn`, `LDY nn` (R139). -/
  | ldyZp (nn : Byte)
  /-- `A5 nn`, `LDA nn` (R137). -/
  | ldaZp (nn : Byte)
  /-- `A6 nn`, `LDX nn` (R138). -/
  | ldxZp (nn : Byte)
  /-- `A7 nn`, `LAX nn`, illegal (R232). -/
  | laxZp (nn : Byte)
  /-- `A9 nn`, `LDA #nn` (R137). -/
  | ldaImm (nn : Byte)
  /-- `AB nn`, `LAX #nn`, illegal (R260). -/
  | laxImm (nn : Byte)
  /-- `AC lo hi`, `LDY nnnn` (R139). -/
  | ldyAbs (nnnn : Word)
  /-- `AD lo hi`, `LDA nnnn` (R137). -/
  | ldaAbs (nnnn : Word)
  /-- `AE lo hi`, `LDX nnnn` (R138). -/
  | ldxAbs (nnnn : Word)
  /-- `AF lo hi`, `LAX nnnn`, illegal (R232). -/
  | laxAbs (nnnn : Word)
  /-- `B0 dd`, `BCS disp` (R202). -/
  | bcs (dd : Byte)
  /-- `B1 nn`, `LDA (nn),Y` (R137). -/
  | ldaIzy (nn : Byte)
  /-- `B3 nn`, `LAX (nn),Y`, illegal (R232). -/
  | laxIzy (nn : Byte)
  /-- `B4 nn`, `LDY nn,X` (R139). -/
  | ldyZpx (nn : Byte)
  /-- `B5 nn`, `LDA nn,X` (R137). -/
  | ldaZpx (nn : Byte)
  /-- `B6 nn`, `LDX nn,Y` (R138). -/
  | ldxZpy (nn : Byte)
  /-- `B7 nn`, `LAX nn,Y`, illegal (R232). -/
  | laxZpy (nn : Byte)
  /-- `B9 lo hi`, `LDA nnnn,Y` (R137). -/
  | ldaAby (nnnn : Word)
  /-- `BB lo hi`, `LAS nnnn,Y`, illegal (R267). -/
  | las (nnnn : Word)
  /-- `BC lo hi`, `LDY nnnn,X` (R139). -/
  | ldyAbx (nnnn : Word)
  /-- `BD lo hi`, `LDA nnnn,X` (R137). -/
  | ldaAbx (nnnn : Word)
  /-- `BE lo hi`, `LDX nnnn,Y` (R138). -/
  | ldxAby (nnnn : Word)
  /-- `BF lo hi`, `LAX nnnn,X`, illegal (R232). -/
  | laxAbx (nnnn : Word)
  /-- `C0 nn`, `CPY #nn` (R161). -/
  | cpyImm (nn : Byte)
  /-- `C1 nn`, `CMP (nn,X)` (R159). -/
  | cmpIzx (nn : Byte)
  /-- `C2 nn`, `NOP #nn`, illegal (R268). -/
  | nopImmC2 (nn : Byte)
  /-- `C3 nn`, `DCP (nn,X)`, illegal (R238). -/
  | dcpIzx (nn : Byte)
  /-- `C4 nn`, `CPY nn` (R161). -/
  | cpyZp (nn : Byte)
  /-- `C5 nn`, `CMP nn` (R159). -/
  | cmpZp (nn : Byte)
  /-- `C6 nn`, `DEC nn` (R166). -/
  | decZp (nn : Byte)
  /-- `C7 nn`, `DCP nn`, illegal (R238). -/
  | dcpZp (nn : Byte)
  /-- `C9 nn`, `CMP #nn` (R159). -/
  | cmpImm (nn : Byte)
  /-- `CB nn`, `AXS #nn`, illegal (R261). -/
  | axs (nn : Byte)
  /-- `CC lo hi`, `CPY nnnn` (R161). -/
  | cpyAbs (nnnn : Word)
  /-- `CD lo hi`, `CMP nnnn` (R159). -/
  | cmpAbs (nnnn : Word)
  /-- `CE lo hi`, `DEC nnnn` (R166). -/
  | decAbs (nnnn : Word)
  /-- `CF lo hi`, `DCP nnnn`, illegal (R238). -/
  | dcpAbs (nnnn : Word)
  /-- `D0 dd`, `BNE disp` (R203). -/
  | bne (dd : Byte)
  /-- `D1 nn`, `CMP (nn),Y` (R159). -/
  | cmpIzy (nn : Byte)
  /-- `D3 nn`, `DCP (nn),Y`, illegal (R238). -/
  | dcpIzy (nn : Byte)
  /-- `D4 nn`, `NOP nn,X`, illegal (R268). -/
  | nopZpxD4 (nn : Byte)
  /-- `D5 nn`, `CMP nn,X` (R159). -/
  | cmpZpx (nn : Byte)
  /-- `D6 nn`, `DEC nn,X` (R166). -/
  | decZpx (nn : Byte)
  /-- `D7 nn`, `DCP nn,X`, illegal (R238). -/
  | dcpZpx (nn : Byte)
  /-- `D9 lo hi`, `CMP nnnn,Y` (R159). -/
  | cmpAby (nnnn : Word)
  /-- `DB lo hi`, `DCP nnnn,Y`, illegal (R238). -/
  | dcpAby (nnnn : Word)
  /-- `DC lo hi`, `NOP nnnn,X`, illegal (R268). -/
  | nopAbxDC (nnnn : Word)
  /-- `DD lo hi`, `CMP nnnn,X` (R159). -/
  | cmpAbx (nnnn : Word)
  /-- `DE lo hi`, `DEC nnnn,X` (R166). -/
  | decAbx (nnnn : Word)
  /-- `DF lo hi`, `DCP nnnn,X`, illegal (R238). -/
  | dcpAbx (nnnn : Word)
  /-- `E0 nn`, `CPX #nn` (R160). -/
  | cpxImm (nn : Byte)
  /-- `E1 nn`, `SBC (nn,X)` (R154). -/
  | sbcIzx (nn : Byte)
  /-- `E2 nn`, `NOP #nn`, illegal (R268). -/
  | nopImmE2 (nn : Byte)
  /-- `E3 nn`, `ISC (nn,X)`, illegal (R239). -/
  | iscIzx (nn : Byte)
  /-- `E4 nn`, `CPX nn` (R160). -/
  | cpxZp (nn : Byte)
  /-- `E5 nn`, `SBC nn` (R154). -/
  | sbcZp (nn : Byte)
  /-- `E6 nn`, `INC nn` (R163). -/
  | incZp (nn : Byte)
  /-- `E7 nn`, `ISC nn`, illegal (R239). -/
  | iscZp (nn : Byte)
  /-- `E9 nn`, `SBC #nn` (R154). -/
  | sbcImm (nn : Byte)
  /-- `EB nn`, `SBC #nn`, illegal (R262). -/
  | sbcImmEB (nn : Byte)
  /-- `EC lo hi`, `CPX nnnn` (R160). -/
  | cpxAbs (nnnn : Word)
  /-- `ED lo hi`, `SBC nnnn` (R154). -/
  | sbcAbs (nnnn : Word)
  /-- `EE lo hi`, `INC nnnn` (R163). -/
  | incAbs (nnnn : Word)
  /-- `EF lo hi`, `ISC nnnn`, illegal (R239). -/
  | iscAbs (nnnn : Word)
  /-- `F0 dd`, `BEQ disp` (R204). -/
  | beq (dd : Byte)
  /-- `F1 nn`, `SBC (nn),Y` (R154). -/
  | sbcIzy (nn : Byte)
  /-- `F3 nn`, `ISC (nn),Y`, illegal (R239). -/
  | iscIzy (nn : Byte)
  /-- `F4 nn`, `NOP nn,X`, illegal (R268). -/
  | nopZpxF4 (nn : Byte)
  /-- `F5 nn`, `SBC nn,X` (R154). -/
  | sbcZpx (nn : Byte)
  /-- `F6 nn`, `INC nn,X` (R163). -/
  | incZpx (nn : Byte)
  /-- `F7 nn`, `ISC nn,X`, illegal (R239). -/
  | iscZpx (nn : Byte)
  /-- `F9 lo hi`, `SBC nnnn,Y` (R154). -/
  | sbcAby (nnnn : Word)
  /-- `FB lo hi`, `ISC nnnn,Y`, illegal (R239). -/
  | iscAby (nnnn : Word)
  /-- `FC lo hi`, `NOP nnnn,X`, illegal (R268). -/
  | nopAbxFC (nnnn : Word)
  /-- `FD lo hi`, `SBC nnnn,X` (R154). -/
  | sbcAbx (nnnn : Word)
  /-- `FE lo hi`, `INC nnnn,X` (R163). -/
  | incAbx (nnnn : Word)
  /-- `FF lo hi`, `ISC nnnn,X`, illegal (R239). -/
  | iscAbx (nnnn : Word)
  /-- `00`, `BRK` (R211). -/
  | brk
  /-- `02`, `KIL`, illegal (R270). -/
  | kil02
  /-- `08`, `PHP` (R144). -/
  | php
  /-- `0A`, `ASL A` (R181). -/
  | aslAcc
  /-- `12`, `KIL`, illegal (R270). -/
  | kil12
  /-- `18`, `CLC` (R212). -/
  | clc
  /-- `1A`, `NOP`, illegal (R268). -/
  | nop1A
  /-- `22`, `KIL`, illegal (R270). -/
  | kil22
  /-- `28`, `PLP` (R146). -/
  | plp
  /-- `2A`, `ROL A` (R183). -/
  | rolAcc
  /-- `32`, `KIL`, illegal (R270). -/
  | kil32
  /-- `38`, `SEC` (R216). -/
  | sec
  /-- `3A`, `NOP`, illegal (R268). -/
  | nop3A
  /-- `40`, `RTI` (R195). -/
  | rti
  /-- `42`, `KIL`, illegal (R270). -/
  | kil42
  /-- `48`, `PHA` (R143). -/
  | pha
  /-- `4A`, `LSR A` (R182). -/
  | lsrAcc
  /-- `52`, `KIL`, illegal (R270). -/
  | kil52
  /-- `58`, `CLI` (R213). -/
  | cli
  /-- `5A`, `NOP`, illegal (R268). -/
  | nop5A
  /-- `60`, `RTS` (R194). -/
  | rts
  /-- `62`, `KIL`, illegal (R270). -/
  | kil62
  /-- `68`, `PLA` (R145). -/
  | pla
  /-- `6A`, `ROR A` (R184). -/
  | rorAcc
  /-- `72`, `KIL`, illegal (R270). -/
  | kil72
  /-- `78`, `SEI` (R217). -/
  | sei
  /-- `7A`, `NOP`, illegal (R268). -/
  | nop7A
  /-- `88`, `DEY` (R168). -/
  | dey
  /-- `8A`, `TXA` (R135). -/
  | txa
  /-- `92`, `KIL`, illegal (R270). -/
  | kil92
  /-- `98`, `TYA` (R134). -/
  | tya
  /-- `9A`, `TXS` (R136). -/
  | txs
  /-- `A8`, `TAY` (R131). -/
  | tay
  /-- `AA`, `TAX` (R132). -/
  | tax
  /-- `B2`, `KIL`, illegal (R270). -/
  | kilB2
  /-- `B8`, `CLV` (R215). -/
  | clv
  /-- `BA`, `TSX` (R133). -/
  | tsx
  /-- `C8`, `INY` (R165). -/
  | iny
  /-- `CA`, `DEX` (R167). -/
  | dex
  /-- `D2`, `KIL`, illegal (R270). -/
  | kilD2
  /-- `D8`, `CLD` (R214). -/
  | cld
  /-- `DA`, `NOP`, illegal (R268). -/
  | nopDA
  /-- `E8`, `INX` (R164). -/
  | inx
  /-- `EA`, `NOP` (R219). -/
  | nop
  /-- `F2`, `KIL`, illegal (R270). -/
  | kilF2
  /-- `F8`, `SED` (R218). -/
  | sed
  /-- `FA`, `NOP`, illegal (R268). -/
  | nopFA
  deriving DecidableEq, Repr

end Sys2Proof
end

