-- ==== Sys2Proof/WellFormed.lean ====
section
/-! DEFINITION. Well-formedness. Every operand of `Instr` has its exact width in its type, so every term of
`Instr` is an instruction of the machine (30_encoding.md R110: no opcode byte is reserved). What can be
ill-formed is a platform's memory map, and an instruction on a part that lacks it (42_rotate_shift.md R185). -/

namespace Sys2Proof

/-- The number of locations the platform sees (20_memory.md R60, R67). -/
def AddrLines.space : AddrLines → Nat
  | .sixteen => 0x10000
  | .thirteen => 0x2000

/-- A region of `MEM_MAP` holds at least one address and lies inside the 16-bit space. -/
def Region.wellFormed (r : Region) : Bool :=
  decide (0 < r.size) && decide (r.base + r.size ≤ 0x10000)

/-- Every region of the memory map is well-formed. -/
def Config.wellFormed (cfg : Config) : Bool :=
  cfg.memMap.all Region.wellFormed

/-- Is this one of the five ROR opcodes 6A 66 76 6E 7E (42_rotate_shift.md R185)? -/
def Instr.isRor : Instr → Bool
  | .rorAcc | .rorZp _ | .rorZpx _ | .rorAbs _ | .rorAbx _ => true
  | _ => false

/-- The part has the instruction: all of them, but ROR on a part made before June 1976
(42_rotate_shift.md R185, parameter `HAS_ROR`). -/
def Instr.wellFormed (cfg : Config) (i : Instr) : Bool :=
  cfg.hasRor || !i.isRor

end Sys2Proof
end

