-- ==== Sys2Proof/Machine/Ops.lean ====
section
/-! DEFINITION. The named operations over memory and registers: one byte read and one byte written
(20_memory.md R62), the bus record, push and pull (10_state.md R27, R28), the word read (20_memory.md R63), the
free values of a step, taking an interrupt (60_exceptions.md R303), the return from one (43_jump_control.md R195)
and the RESET sequence (70_reset_and_hazards.md R340). -/

namespace Sys2Proof.Machine

/-! ## Memory as data -/

/-- The byte at a location: the listed one, or what an unlisted location reads as. -/
def Memory.read : Memory → Nat → Byte
  | [], _ => Memory.unlisted
  | (b, w) :: m, a => if a = b then w else Memory.read m a

/-- Store a byte at a location, keeping the canonical form: storing what an unlisted location reads as takes the
entry out. -/
def Memory.write : Memory → Nat → Byte → Memory
  | [], a, v => if v = Memory.unlisted then [] else [(a, v)]
  | (b, w) :: m, a, v =>
    if a < b then (if v = Memory.unlisted then (b, w) :: m else (a, v) :: (b, w) :: m)
    else if a = b then (if v = Memory.unlisted then m else (a, v) :: m)
    else (b, w) :: Memory.write m a v

/-! ## What stands at an address -/

/-- The location the platform sees for an address: all 16 bits, or the low 13 (20_memory.md R67). -/
def cellOf (cfg : Config) (addr : Word) : Nat := addr.toNat % cfg.addrLines.space

/-- What the first region holding a location says of it; in no region: unpopulated (20_memory.md R66). -/
def kindIn : List Region → Nat → StoreKind
  | [], _ => .device
  | r :: rest, loc => if r.base ≤ loc ∧ loc < r.base + r.size then r.kind else kindIn rest loc

/-- What stands at an address: the on-chip port at 0000h and 0001h where the part has one, else what the memory
map says (20_memory.md R66, 60_exceptions.md R332). -/
def kindAt (cfg : Config) (addr : Word) : StoreKind :=
  if cfg.ioPort && (addr == 0x0000 || addr == 0x0001) then .device else kindIn cfg.memMap (cellOf cfg addr)

/-! ## One byte read, one byte written -/

/-- The value of `MemRead(addr, 1)` (00_scope.md R10): the stored byte, or at a device address what the
environment answers at its location (log 11). -/
def State.read (s : State) (k : AccessKind) (addr : Word) : Byte :=
  match kindAt s.cfg addr with
  | .device => Config.deviceByte s.tick k (cellOf s.cfg addr)
  | .ram | .rom => s.mem.read (cellOf s.cfg addr)

/-- Record accesses, in order (20_memory.md R68). -/
def State.log (s : State) (l : List BusAccess) : State := { s with bus := s.bus ++ l }

/-- The record of a read of `addr` (20_memory.md R67). -/
def State.rdOf (s : State) (k : AccessKind) (addr : Word) : BusAccess := .rd (cellOf s.cfg addr) (s.read k addr)

/-- The record of a write to `addr` (20_memory.md R67). -/
def State.wrOf (s : State) (addr : Word) (v : Byte) : BusAccess := .wr (cellOf s.cfg addr) v

/-- The memory after a byte is written at an address: RAM takes it, ROM and devices leave memory as it is
(logs 11 and 12). -/
def State.memAfterWrite (s : State) (addr : Word) (v : Byte) : Memory :=
  match kindAt s.cfg addr with
  | .ram => s.mem.write (cellOf s.cfg addr) v
  | .rom | .device => s.mem

/-- `MemWrite(addr, 1, v)` (00_scope.md R10), recorded on the bus. -/
def State.write (s : State) (addr : Word) (v : Byte) : State :=
  { s with mem := s.memAfterWrite addr v, bus := s.bus ++ [s.wrOf addr v] }

/-- The value of `ReadWord(lo, hi)`: low byte at `lo`, high byte at `hi` (20_memory.md R63). -/
def State.readWord (s : State) (k : AccessKind) (lo hi : Word) : Word := wordOf (s.read k lo) (s.read k hi)

/-- The two reads of `ReadWord(lo, hi)`, low byte first (20_memory.md R63). -/
def State.rdWordOf (s : State) (k : AccessKind) (lo hi : Word) : List BusAccess := [s.rdOf k lo, s.rdOf k hi]

/-! ## Registers, flags, PC -/

/-- The four 8-bit registers (10_state.md R20). -/
inductive Reg where
  | a
  | x
  | y
  | sp
  deriving DecidableEq, Repr

/-- Read a register (00_scope.md R9). -/
def State.get (s : State) : Reg → Byte
  | .a => s.a
  | .x => s.x
  | .y => s.y
  | .sp => s.sp

/-- Write a register (00_scope.md R9). -/
def State.set (s : State) (r : Reg) (v : Byte) : State :=
  match r with
  | .a => { s with a := v }
  | .x => { s with x := v }
  | .y => { s with y := v }
  | .sp => { s with sp := v }

/-- Put new flags in place. -/
def State.setP (s : State) (f : Flags) : State := { s with p := f }

/-- `SetNZ(v)` on the state (10_state.md R34). -/
def State.setNZ (s : State) (v : Byte) : State := s.setP (s.p.setNZ v)

/-- `C <- c` on the state. -/
def State.setC (s : State) (c : Bool) : State := s.setP (s.p.setC c)

/-- `PC <- target`. -/
def State.jump (s : State) (target : Word) : State := { s with pc := target }

/-- `PC <- next` after an instruction of `len` bytes, modulo 10000h (10_state.md R25). -/
def State.advance (s : State) (len : Nat) : State := s.jump (s.pc + BitVec.ofNat 16 len)

/-! ## The free values of this step -/

/-- A free bit of this step (log 6). -/
def State.freeBit (s : State) (name : FreeName) : Bool := Config.freeBit s.tick name

/-- A free byte of this step (log 6). -/
def State.freeByte (s : State) (name : FreeName) : Byte := Config.freeByte s.tick name

/-- A free address of this step (log 6). -/
def State.freeWord (s : State) (name : FreeName) : Word := Config.freeWord s.tick name

/-! ## The stack -/

/-- `0100h + S` for a value of S (10_state.md R26). -/
def stackAddr (sp : Byte) : Word := 0x0100 + zext16 sp

/-- `Push(v)`: store at the free location, then decrement S (10_state.md R27). -/
def State.push (s : State) (v : Byte) : State := (s.write (stackAddr s.sp) v).set .sp (s.sp - 1)

/-- The byte `Pull()` returns (10_state.md R28). -/
def State.pulled (s : State) : Byte := s.read .stack (stackAddr (s.sp + 1))

/-- The state `Pull()` leaves: S incremented, the read recorded (10_state.md R28). -/
def State.afterPull (s : State) : State := (s.set .sp (s.sp + 1)).log [s.rdOf .stack (stackAddr (s.sp + 1))]

/-- Push a 16-bit value: high byte, then low byte (20_memory.md R74). -/
def State.pushWord (s : State) (w : Word) : State := (s.push (hiByte w)).push (loByte w)

/-- The word that two pulls return: low byte, then high byte (20_memory.md R74). -/
def State.pulledWord (s : State) : Word := wordOf s.pulled s.afterPull.pulled

/-! ## Taking an interrupt, returning from one, RESET -/

/-- The NMI vector (20_memory.md R66). -/
def nmiVector : Word := 0xFFFA

/-- The RESET vector (20_memory.md R66). -/
def resetVector : Word := 0xFFFC

/-- The vector BRK and IRQ share (20_memory.md R66). -/
def irqVector : Word := 0xFFFE

/-- `PC <- ReadWord(vector, vector + 1)` (60_exceptions.md R303). -/
def State.throughVector (s : State) (vector : Word) : State :=
  (s.log (s.rdWordOf .vector vector (vector + 1))).jump (s.readWord .vector vector (vector + 1))

/-- `Interrupt(vector, b, ret)`: push the return address, push P with B as given and the old I, set I, go
through the vector (60_exceptions.md R303). BRK, IRQ and NMI all take it. -/
def State.interrupt (s : State) (vector : Word) (b : Bool) (ret : Word) : State :=
  let pushed := (s.pushWord ret).push (s.p.pByte b)
  (pushed.setP { s.p with i := true }).throughVector vector

/-- The return that RTI makes: flags, then PC, from the stack (43_jump_control.md R195). -/
def State.returnFromInterrupt (s : State) : State :=
  let t := s.afterPull
  (t.afterPull.afterPull.setP (Flags.ofByte s.pulled)).jump t.pulledWord

/-- `Reset()` (70_reset_and_hazards.md R340): `halted` and `nmi_pending` cleared, I set, PC through FFFCh, nothing
written. The registers and flags it gives no value are free (10_state.md R46, log 8). -/
def State.resetSequence (s : State) : State :=
  { s with
    a := s.freeByte .a
    x := s.freeByte .x
    y := s.freeByte .y
    sp := s.freeByte .sp
    p := { n := s.freeBit .n, v := s.freeBit .v, d := s.freeBit .d, i := true, z := s.freeBit .z, c := s.freeBit .c }
    nmiPending := false
    halted := false }.throughVector resetVector

end Sys2Proof.Machine
end

