-- ==== Sys2Proof/Machine/Operands.lean ====
section
/-! DEFINITION. The operand forms of 30_encoding.md R94 to R106: effective addresses, operand values, the
accesses a form makes, the page-crossing test, and the targets of a branch and of JMP (nnnn). -/

namespace Sys2Proof.Machine

/-- A form that yields an effective address (30_encoding.md R97 to R104). -/
inductive AddrForm where
  | zp (nn : Byte)
  | zpx (nn : Byte)
  | zpy (nn : Byte)
  | abs (nnnn : Word)
  | abx (nnnn : Word)
  | aby (nnnn : Word)
  | izx (nn : Byte)
  | izy (nn : Byte)
  deriving DecidableEq, Repr

/-- An operand that is read: immediate, or a byte of memory (30_encoding.md R96 to R104). -/
inductive Operand where
  | imm (nn : Byte)
  | mem (form : AddrForm)
  deriving DecidableEq, Repr

/-- The length in bytes of an instruction with this form (30_encoding.md R91). -/
def AddrForm.length : AddrForm → Nat
  | .zp _ | .zpx _ | .zpy _ | .izx _ | .izy _ => 2
  | .abs _ | .abx _ | .aby _ => 3

/-- The length in bytes of an instruction with this operand (30_encoding.md R91). -/
def Operand.length : Operand → Nat
  | .imm _ => 2
  | .mem f => f.length

/-- The page-0 address of a pointer's low byte, where the form has a pointer (30_encoding.md R103, R104). -/
def AddrForm.pointer (f : AddrForm) (s : State) : Option Byte :=
  match f with
  | .izx nn => some (nn + s.x)
  | .izy nn => some nn
  | .zp _ | .zpx _ | .zpy _ | .abs _ | .abx _ | .aby _ => none

/-- The 16-bit pointer at page-0 address `p`; its high byte is at `p + 1` within page 0 (30_encoding.md R103). -/
def State.pointerAt (s : State) (p : Byte) : Word := s.readWord .pointer (zext16 p) (zext16 (p + 1))

/-- The accesses that form an effective address: the two pointer reads, if any (20_memory.md R68). -/
def AddrForm.pointerReads (f : AddrForm) (s : State) : List BusAccess :=
  match f.pointer s with
  | some p => s.rdWordOf .pointer (zext16 p) (zext16 (p + 1))
  | none => []

/-- The address before the index is added (70_reset_and_hazards.md R360). -/
def AddrForm.base (f : AddrForm) (s : State) : Word :=
  match f with
  | .zp nn | .zpx nn | .zpy nn => zext16 nn
  | .abs nnnn | .abx nnnn | .aby nnnn => nnnn
  | .izx nn => s.pointerAt (nn + s.x)
  | .izy nn => s.pointerAt nn

/-- `EA`, the effective address (30_encoding.md R97 to R104). -/
def AddrForm.ea (f : AddrForm) (s : State) : Word :=
  match f with
  | .zp nn => zext16 nn
  | .zpx nn => zext16 (nn + s.x)
  | .zpy nn => zext16 (nn + s.y)
  | .abs nnnn => nnnn
  | .abx nnnn => nnnn + zext16 s.x
  | .aby nnnn => nnnn + zext16 s.y
  | .izx nn => s.pointerAt (nn + s.x)
  | .izy nn => s.pointerAt nn + zext16 s.y

/-- Indexing crosses a page boundary (70_reset_and_hazards.md R360): only `nnnn,X`, `nnnn,Y` and `(nn),Y` can. -/
def AddrForm.crossesPage (f : AddrForm) (s : State) : Bool :=
  match f with
  | .abx nnnn => decide (0xFF < (loByte nnnn).toNat + s.x.toNat)
  | .aby nnnn => decide (0xFF < (loByte nnnn).toNat + s.y.toNat)
  | .izy nn => decide (0xFF < (loByte (s.pointerAt nn)).toNat + s.y.toNat)
  | .zp _ | .zpx _ | .zpy _ | .abs _ | .izx _ => false

/-- The byte at the effective address. -/
def AddrForm.value (f : AddrForm) (s : State) : Byte := s.read .data (f.ea s)

/-- The accesses of reading a form's operand: pointer reads, then `EA` (20_memory.md R68). -/
def AddrForm.reads (f : AddrForm) (s : State) : List BusAccess := f.pointerReads s ++ [s.rdOf .data (f.ea s)]

/-- `m`, the operand value (00_scope.md R11, 30_encoding.md R96). -/
def Operand.value (o : Operand) (s : State) : Byte :=
  match o with
  | .imm nn => nn
  | .mem f => f.value s

/-- The accesses of reading an operand (20_memory.md R68). -/
def Operand.reads (o : Operand) (s : State) : List BusAccess :=
  match o with
  | .imm _ => []
  | .mem f => f.reads s

/-- The target of a branch at PC (30_encoding.md R106). -/
def State.branchTarget (s : State) (dd : Byte) : Word := s.pc + 2 + sext16 dd

/-- Where JMP (nnnn) finds the high byte of its target: in the page of the low byte (30_encoding.md R105). -/
def jumpHighAddr (nnnn : Word) : Word := (nnnn &&& 0xFF00) ||| ((nnnn + 1) &&& 0x00FF)

end Sys2Proof.Machine
end

