-- ==== Sys2Proof/Machine/Shared.lean ====
section
/-! DEFINITION. The shared operations that the meanings of the instructions are one line over: each takes the
operand and the state at the start of the instruction (PC at the opcode byte) and gives the state after it. -/

namespace Sys2Proof.Machine

/-! ## Loads, transfers, stores -/

/-- `r <- v; SetNZ(v)`: what every flag-setting move does (40_transfers.md R131 to R139). -/
def State.move (s : State) (r : Reg) (v : Byte) : State := (s.set r v).setNZ v

/-- A load of one register (40_transfers.md R137). -/
def load (r : Reg) (o : Operand) (s : State) : State :=
  ((s.log (o.reads s)).move r (o.value s)).advance o.length

/-- A transfer that sets N and Z (40_transfers.md R131). -/
def transfer (dst src : Reg) (s : State) : State := (s.move dst (s.get src)).advance 1

/-- A store of a value at the effective address: the pointer reads, then one write (40_transfers.md R140). -/
def store (f : AddrForm) (v : Byte) (s : State) : State :=
  ((s.log (f.pointerReads s)).write (f.ea s) v).advance f.length

/-! ## Accumulator operations on an operand -/

/-- Decimal arithmetic is in force: D = 1 and the part has decimal mode (41_arithmetic_logical.md R152). -/
def State.decimalOn (s : State) : Bool := s.p.d && decide (s.cfg.decimal = .supported)

/-- `AdcCore(m)` (41_arithmetic_logical.md R151). -/
def State.adcCore (s : State) (m : Byte) : State :=
  let r := addBinary s.a m s.p.c
  ((s.set .a r.value).setP { s.p with c := r.carry, v := r.overflow }).setNZ r.value

/-- `AdcDecimal(m)` (41_arithmetic_logical.md R169): A and C where all four digits are decimal; everything else a
free value (log 21). -/
def State.adcDecimal (s : State) (m : Byte) : State :=
  let r := addDecimal s.a m s.p.c
  let ok := isBcd s.a && isBcd m
  (s.set .a (if ok then r.value else s.freeByte .a)).setP
    { s.p with
      c := if ok then r.carry else s.freeBit .c
      n := s.freeBit .n
      v := s.freeBit .v
      z := s.freeBit .z }

/-- `SbcCore(m)` (41_arithmetic_logical.md R153). -/
def State.sbcCore (s : State) (m : Byte) : State :=
  let r := subBinary s.a m s.p.c
  ((s.set .a r.value).setP { s.p with c := r.carry, v := r.overflow }).setNZ r.value

/-- `SbcDecimal(m)` (41_arithmetic_logical.md R170): as `adcDecimal` (log 21). -/
def State.sbcDecimal (s : State) (m : Byte) : State :=
  let r := subDecimal s.a m s.p.c
  let ok := isBcd s.a && isBcd m
  (s.set .a (if ok then r.value else s.freeByte .a)).setP
    { s.p with
      c := if ok then r.carry else s.freeBit .c
      n := s.freeBit .n
      v := s.freeBit .v
      z := s.freeBit .z }

/-- The addition of ADC and RRA (41_arithmetic_logical.md R152, 44_illegal_opcodes.md R237). -/
def State.adc (s : State) (m : Byte) : State := if s.decimalOn then s.adcDecimal m else s.adcCore m

/-- The subtraction of SBC and ISC (41_arithmetic_logical.md R154, 44_illegal_opcodes.md R239). -/
def State.sbc (s : State) (m : Byte) : State := if s.decimalOn then s.sbcDecimal m else s.sbcCore m

/-- `A <- A AND m; SetNZ(A)` (41_arithmetic_logical.md R155). -/
def State.andA (s : State) (m : Byte) : State := s.move .a (s.a &&& m)

/-- `A <- A XOR m; SetNZ(A)` (41_arithmetic_logical.md R156). -/
def State.eorA (s : State) (m : Byte) : State := s.move .a (s.a ^^^ m)

/-- `A <- A OR m; SetNZ(A)` (41_arithmetic_logical.md R157). -/
def State.oraA (s : State) (m : Byte) : State := s.move .a (s.a ||| m)

/-- `Compare(r, m)` (41_arithmetic_logical.md R158). -/
def State.compareWith (s : State) (r : Reg) (m : Byte) : State := s.setP (s.p.compare (s.get r) m)

/-- BIT's flags (41_arithmetic_logical.md R162). -/
def State.bitTest (s : State) (m : Byte) : State := s.setP (s.p.bitTest s.a m)

/-- Read an operand and do `f` with its value (41_arithmetic_logical.md R150). -/
def withOperand (f : State → Byte → State) (o : Operand) (s : State) : State :=
  (f (s.log (o.reads s)) (o.value s)).advance o.length

/-! ## Read-modify-write -/

/-- One read and one write of the effective address (20_memory.md R68). -/
def State.rmw (s : State) (f : AddrForm) (v : Byte) : State := (s.log (f.reads s)).write (f.ea s) v

/-- INC and DEC: the new value is `g` of the old one (41_arithmetic_logical.md R163, R166). -/
def stepMem (g : Byte → Byte) (f : AddrForm) (s : State) : State :=
  let r := g (f.value s)
  ((s.rmw f r).setNZ r).advance f.length

/-- INX, INY, DEX, DEY (41_arithmetic_logical.md R164, R165, R167, R168). -/
def stepReg (g : Byte → Byte) (r : Reg) (s : State) : State := (s.move r (g (s.get r))).advance 1

/-- Add one modulo 100h. -/
def incr (v : Byte) : Byte := v + 1

/-- Subtract one modulo 100h. -/
def decr (v : Byte) : Byte := v - 1

/-- A shift or rotate of A (42_rotate_shift.md R186, form ACC). -/
def shiftAcc (op : Byte → Bool → Shifted) (s : State) : State :=
  let r := op s.a s.p.c
  (((s.set .a r.value).setC r.carry).setNZ r.value).advance 1

/-- A shift or rotate of a byte of memory (42_rotate_shift.md R186). -/
def shiftMem (op : Byte → Bool → Shifted) (f : AddrForm) (s : State) : State :=
  let r := op (f.value s) s.p.c
  (((s.rmw f r.value).setC r.carry).setNZ r.value).advance f.length

/-- The result on a part that has ROR, a refusal by name on one that has not (42_rotate_shift.md R185). -/
def ifRor (s t : State) : Out := if s.cfg.hasRor then .next t else .refused .rorAbsent

/-- A shift or rotate of memory, then an accumulator step with the new byte, which sees the carry the first part
left: SLO, RLA, SRE, RRA (44_illegal_opcodes.md R233). -/
def shiftThen (op : Byte → Bool → Shifted) (g : State → Byte → State) (f : AddrForm) (s : State) : State :=
  let r := op (f.value s) s.p.c
  (g ((s.rmw f r.value).setC r.carry) r.value).advance f.length

/-- An increment or decrement of memory, then an accumulator step with the new byte: DCP, ISC
(44_illegal_opcodes.md R233). -/
def stepThen (h : Byte → Byte) (g : State → Byte → State) (f : AddrForm) (s : State) : State :=
  let r := h (f.value s)
  (g (s.rmw f r) r).advance f.length

/-! ## Control -/

/-- A conditional branch (43_jump_control.md R196). -/
def branch (taken : Bool) (dd : Byte) (s : State) : State :=
  if taken then s.jump (s.branchTarget dd) else s.advance 2

/-- A flag instruction: new flags, one byte (43_jump_control.md R212). -/
def setFlags (f : Flags) (s : State) : State := (s.setP f).advance 1

/-- Remember the I of before, for the boundary that follows CLI, SEI or PLP (60_exceptions.md R325). -/
def State.noteOldI (s : State) (old : Bool) : State := { s with lateI := some old }

/-! ## Illegal opcodes -/

/-- `A <- v; X <- v; SetNZ(v)` (44_illegal_opcodes.md R232). -/
def State.laxWith (s : State) (v : Byte) : State := (s.set .a v).move .x v

/-- ANC (44_illegal_opcodes.md R255). -/
def State.anc (s : State) (m : Byte) : State :=
  let r := s.a &&& m
  (s.move .a r).setC (r.getLsbD 7)

/-- ALR (44_illegal_opcodes.md R256). -/
def State.alr (s : State) (m : Byte) : State :=
  let r := shr (s.a &&& m) s.p.c
  (s.setC r.carry).move .a r.value

/-- ARR in binary mode: V is free (44_illegal_opcodes.md R258, log 22). -/
def State.arrBinary (s : State) (m : Byte) : State :=
  let t := s.a &&& m
  let r := (rcr t s.p.c).value
  (s.setP { s.p with c := t.getLsbD 7, v := s.freeBit .v }).move .a r

/-- ARR in decimal mode: A and the flags C, V, N, Z are free (44_illegal_opcodes.md R258, log 22). -/
def State.arrDecimal (s : State) : State :=
  (s.set .a (s.freeByte .a)).setP
    { s.p with c := s.freeBit .c, v := s.freeBit .v, n := s.freeBit .n, z := s.freeBit .z }

/-- ARR (44_illegal_opcodes.md R258). -/
def State.arr (s : State) (m : Byte) : State := if s.decimalOn then s.arrDecimal else s.arrBinary m

/-- XAA: A, N and Z are free (44_illegal_opcodes.md R259, log 23). -/
def State.xaa (s : State) : State :=
  (s.set .a (s.freeByte .a)).setP { s.p with n := s.freeBit .n, z := s.freeBit .z }

/-- LAX #nn: one free byte in A and X, N and Z free (44_illegal_opcodes.md R260, log 23). -/
def State.laxImmediate (s : State) : State :=
  ((s.set .a (s.freeByte .a)).set .x (s.freeByte .a)).setP { s.p with n := s.freeBit .n, z := s.freeBit .z }

/-- AXS: `X <- (A AND X) - m`, C as CMP sets it (44_illegal_opcodes.md R261). -/
def State.axs (s : State) (m : Byte) : State :=
  let t := s.a &&& s.x
  (s.setC (decide (m.toNat ≤ t.toNat))).move .x (t - m)

/-- LAS: A, X and S all take `m AND S` (44_illegal_opcodes.md R267). -/
def State.las (s : State) (m : Byte) : State :=
  let r := m &&& s.sp
  ((s.set .a r).set .x r).move .sp r

/-- Where an unstable store writes: the effective address, or on a page crossing a free address
(44_illegal_opcodes.md R263, log 24). -/
def unstableTarget (f : AddrForm) (s : State) : Word :=
  if f.crossesPage s then s.freeWord .address else f.ea s

/-- AHX, SHY, SHX and the store of TAS: a free byte is written (44_illegal_opcodes.md R263, log 24). -/
def unstableStore (f : AddrForm) (s : State) : State :=
  ((s.log (f.pointerReads s)).write (unstableTarget f s) (s.freeByte .stored)).advance f.length

/-- An illegal NOP with a memory operand: the operand is fetched and dropped (44_illegal_opcodes.md R268). -/
def readOnly (f : AddrForm) (s : State) : State := (s.log (f.reads s)).advance f.length

/-- The operand form of opcode BF: the index register is the parameter `LAX_BF_INDEX`
(44_illegal_opcodes.md R232, log 25). -/
def laxBfForm (cfg : Config) (nnnn : Word) : AddrForm :=
  match cfg.laxBfIndex with
  | .x => .abx nnnn
  | .y => .aby nnnn

/-- KIL (44_illegal_opcodes.md R270): nothing but `halted` changes. -/
def State.halt (s : State) : State := { s with halted := true }

end Sys2Proof.Machine
end

