-- ==== Sys2Proof/Machine/Arithmetic.lean ====
section
/-! DEFINITION. Arithmetic and logical instructions (41_arithmetic_logical.md).
One definition for each opcode byte, over the shared operations of Machine/Shared.lean. -/

namespace Sys2Proof.Machine

/-- `61 nn`, `ADC (nn,X)` (R152). -/
def execAdcIzx (nn : Byte) (s : State) : Out := .next (withOperand State.adc (.mem (.izx nn)) s)

/-- `65 nn`, `ADC nn` (R152). -/
def execAdcZp (nn : Byte) (s : State) : Out := .next (withOperand State.adc (.mem (.zp nn)) s)

/-- `69 nn`, `ADC #nn` (R152). -/
def execAdcImm (nn : Byte) (s : State) : Out := .next (withOperand State.adc (.imm nn) s)

/-- `6D lo hi`, `ADC nnnn` (R152). -/
def execAdcAbs (nnnn : Word) (s : State) : Out := .next (withOperand State.adc (.mem (.abs nnnn)) s)

/-- `71 nn`, `ADC (nn),Y` (R152). -/
def execAdcIzy (nn : Byte) (s : State) : Out := .next (withOperand State.adc (.mem (.izy nn)) s)

/-- `75 nn`, `ADC nn,X` (R152). -/
def execAdcZpx (nn : Byte) (s : State) : Out := .next (withOperand State.adc (.mem (.zpx nn)) s)

/-- `79 lo hi`, `ADC nnnn,Y` (R152). -/
def execAdcAby (nnnn : Word) (s : State) : Out := .next (withOperand State.adc (.mem (.aby nnnn)) s)

/-- `7D lo hi`, `ADC nnnn,X` (R152). -/
def execAdcAbx (nnnn : Word) (s : State) : Out := .next (withOperand State.adc (.mem (.abx nnnn)) s)

/-- `E1 nn`, `SBC (nn,X)` (R154). -/
def execSbcIzx (nn : Byte) (s : State) : Out := .next (withOperand State.sbc (.mem (.izx nn)) s)

/-- `E5 nn`, `SBC nn` (R154). -/
def execSbcZp (nn : Byte) (s : State) : Out := .next (withOperand State.sbc (.mem (.zp nn)) s)

/-- `E9 nn`, `SBC #nn` (R154). -/
def execSbcImm (nn : Byte) (s : State) : Out := .next (withOperand State.sbc (.imm nn) s)

/-- `ED lo hi`, `SBC nnnn` (R154). -/
def execSbcAbs (nnnn : Word) (s : State) : Out := .next (withOperand State.sbc (.mem (.abs nnnn)) s)

/-- `F1 nn`, `SBC (nn),Y` (R154). -/
def execSbcIzy (nn : Byte) (s : State) : Out := .next (withOperand State.sbc (.mem (.izy nn)) s)

/-- `F5 nn`, `SBC nn,X` (R154). -/
def execSbcZpx (nn : Byte) (s : State) : Out := .next (withOperand State.sbc (.mem (.zpx nn)) s)

/-- `F9 lo hi`, `SBC nnnn,Y` (R154). -/
def execSbcAby (nnnn : Word) (s : State) : Out := .next (withOperand State.sbc (.mem (.aby nnnn)) s)

/-- `FD lo hi`, `SBC nnnn,X` (R154). -/
def execSbcAbx (nnnn : Word) (s : State) : Out := .next (withOperand State.sbc (.mem (.abx nnnn)) s)

/-- `21 nn`, `AND (nn,X)` (R155). -/
def execAndIzx (nn : Byte) (s : State) : Out := .next (withOperand State.andA (.mem (.izx nn)) s)

/-- `25 nn`, `AND nn` (R155). -/
def execAndZp (nn : Byte) (s : State) : Out := .next (withOperand State.andA (.mem (.zp nn)) s)

/-- `29 nn`, `AND #nn` (R155). -/
def execAndImm (nn : Byte) (s : State) : Out := .next (withOperand State.andA (.imm nn) s)

/-- `2D lo hi`, `AND nnnn` (R155). -/
def execAndAbs (nnnn : Word) (s : State) : Out := .next (withOperand State.andA (.mem (.abs nnnn)) s)

/-- `31 nn`, `AND (nn),Y` (R155). -/
def execAndIzy (nn : Byte) (s : State) : Out := .next (withOperand State.andA (.mem (.izy nn)) s)

/-- `35 nn`, `AND nn,X` (R155). -/
def execAndZpx (nn : Byte) (s : State) : Out := .next (withOperand State.andA (.mem (.zpx nn)) s)

/-- `39 lo hi`, `AND nnnn,Y` (R155). -/
def execAndAby (nnnn : Word) (s : State) : Out := .next (withOperand State.andA (.mem (.aby nnnn)) s)

/-- `3D lo hi`, `AND nnnn,X` (R155). -/
def execAndAbx (nnnn : Word) (s : State) : Out := .next (withOperand State.andA (.mem (.abx nnnn)) s)

/-- `41 nn`, `EOR (nn,X)` (R156). -/
def execEorIzx (nn : Byte) (s : State) : Out := .next (withOperand State.eorA (.mem (.izx nn)) s)

/-- `45 nn`, `EOR nn` (R156). -/
def execEorZp (nn : Byte) (s : State) : Out := .next (withOperand State.eorA (.mem (.zp nn)) s)

/-- `49 nn`, `EOR #nn` (R156). -/
def execEorImm (nn : Byte) (s : State) : Out := .next (withOperand State.eorA (.imm nn) s)

/-- `4D lo hi`, `EOR nnnn` (R156). -/
def execEorAbs (nnnn : Word) (s : State) : Out := .next (withOperand State.eorA (.mem (.abs nnnn)) s)

/-- `51 nn`, `EOR (nn),Y` (R156). -/
def execEorIzy (nn : Byte) (s : State) : Out := .next (withOperand State.eorA (.mem (.izy nn)) s)

/-- `55 nn`, `EOR nn,X` (R156). -/
def execEorZpx (nn : Byte) (s : State) : Out := .next (withOperand State.eorA (.mem (.zpx nn)) s)

/-- `59 lo hi`, `EOR nnnn,Y` (R156). -/
def execEorAby (nnnn : Word) (s : State) : Out := .next (withOperand State.eorA (.mem (.aby nnnn)) s)

/-- `5D lo hi`, `EOR nnnn,X` (R156). -/
def execEorAbx (nnnn : Word) (s : State) : Out := .next (withOperand State.eorA (.mem (.abx nnnn)) s)

/-- `01 nn`, `ORA (nn,X)` (R157). -/
def execOraIzx (nn : Byte) (s : State) : Out := .next (withOperand State.oraA (.mem (.izx nn)) s)

/-- `05 nn`, `ORA nn` (R157). -/
def execOraZp (nn : Byte) (s : State) : Out := .next (withOperand State.oraA (.mem (.zp nn)) s)

/-- `09 nn`, `ORA #nn` (R157). -/
def execOraImm (nn : Byte) (s : State) : Out := .next (withOperand State.oraA (.imm nn) s)

/-- `0D lo hi`, `ORA nnnn` (R157). -/
def execOraAbs (nnnn : Word) (s : State) : Out := .next (withOperand State.oraA (.mem (.abs nnnn)) s)

/-- `11 nn`, `ORA (nn),Y` (R157). -/
def execOraIzy (nn : Byte) (s : State) : Out := .next (withOperand State.oraA (.mem (.izy nn)) s)

/-- `15 nn`, `ORA nn,X` (R157). -/
def execOraZpx (nn : Byte) (s : State) : Out := .next (withOperand State.oraA (.mem (.zpx nn)) s)

/-- `19 lo hi`, `ORA nnnn,Y` (R157). -/
def execOraAby (nnnn : Word) (s : State) : Out := .next (withOperand State.oraA (.mem (.aby nnnn)) s)

/-- `1D lo hi`, `ORA nnnn,X` (R157). -/
def execOraAbx (nnnn : Word) (s : State) : Out := .next (withOperand State.oraA (.mem (.abx nnnn)) s)

/-- `C1 nn`, `CMP (nn,X)` (R159). -/
def execCmpIzx (nn : Byte) (s : State) : Out :=
  .next (withOperand (fun t m => t.compareWith .a m) (.mem (.izx nn)) s)

/-- `C5 nn`, `CMP nn` (R159). -/
def execCmpZp (nn : Byte) (s : State) : Out :=
  .next (withOperand (fun t m => t.compareWith .a m) (.mem (.zp nn)) s)

/-- `C9 nn`, `CMP #nn` (R159). -/
def execCmpImm (nn : Byte) (s : State) : Out := .next (withOperand (fun t m => t.compareWith .a m) (.imm nn) s)

/-- `CD lo hi`, `CMP nnnn` (R159). -/
def execCmpAbs (nnnn : Word) (s : State) : Out :=
  .next (withOperand (fun t m => t.compareWith .a m) (.mem (.abs nnnn)) s)

/-- `D1 nn`, `CMP (nn),Y` (R159). -/
def execCmpIzy (nn : Byte) (s : State) : Out :=
  .next (withOperand (fun t m => t.compareWith .a m) (.mem (.izy nn)) s)

/-- `D5 nn`, `CMP nn,X` (R159). -/
def execCmpZpx (nn : Byte) (s : State) : Out :=
  .next (withOperand (fun t m => t.compareWith .a m) (.mem (.zpx nn)) s)

/-- `D9 lo hi`, `CMP nnnn,Y` (R159). -/
def execCmpAby (nnnn : Word) (s : State) : Out :=
  .next (withOperand (fun t m => t.compareWith .a m) (.mem (.aby nnnn)) s)

/-- `DD lo hi`, `CMP nnnn,X` (R159). -/
def execCmpAbx (nnnn : Word) (s : State) : Out :=
  .next (withOperand (fun t m => t.compareWith .a m) (.mem (.abx nnnn)) s)

/-- `E0 nn`, `CPX #nn` (R160). -/
def execCpxImm (nn : Byte) (s : State) : Out := .next (withOperand (fun t m => t.compareWith .x m) (.imm nn) s)

/-- `E4 nn`, `CPX nn` (R160). -/
def execCpxZp (nn : Byte) (s : State) : Out :=
  .next (withOperand (fun t m => t.compareWith .x m) (.mem (.zp nn)) s)

/-- `EC lo hi`, `CPX nnnn` (R160). -/
def execCpxAbs (nnnn : Word) (s : State) : Out :=
  .next (withOperand (fun t m => t.compareWith .x m) (.mem (.abs nnnn)) s)

/-- `C0 nn`, `CPY #nn` (R161). -/
def execCpyImm (nn : Byte) (s : State) : Out := .next (withOperand (fun t m => t.compareWith .y m) (.imm nn) s)

/-- `C4 nn`, `CPY nn` (R161). -/
def execCpyZp (nn : Byte) (s : State) : Out :=
  .next (withOperand (fun t m => t.compareWith .y m) (.mem (.zp nn)) s)

/-- `CC lo hi`, `CPY nnnn` (R161). -/
def execCpyAbs (nnnn : Word) (s : State) : Out :=
  .next (withOperand (fun t m => t.compareWith .y m) (.mem (.abs nnnn)) s)

/-- `24 nn`, `BIT nn` (R162). -/
def execBitZp (nn : Byte) (s : State) : Out := .next (withOperand State.bitTest (.mem (.zp nn)) s)

/-- `2C lo hi`, `BIT nnnn` (R162). -/
def execBitAbs (nnnn : Word) (s : State) : Out := .next (withOperand State.bitTest (.mem (.abs nnnn)) s)

/-- `E6 nn`, `INC nn` (R163). -/
def execIncZp (nn : Byte) (s : State) : Out := .next (stepMem incr (.zp nn) s)

/-- `EE lo hi`, `INC nnnn` (R163). -/
def execIncAbs (nnnn : Word) (s : State) : Out := .next (stepMem incr (.abs nnnn) s)

/-- `F6 nn`, `INC nn,X` (R163). -/
def execIncZpx (nn : Byte) (s : State) : Out := .next (stepMem incr (.zpx nn) s)

/-- `FE lo hi`, `INC nnnn,X` (R163). -/
def execIncAbx (nnnn : Word) (s : State) : Out := .next (stepMem incr (.abx nnnn) s)

/-- `E8`, `INX` (R164). -/
def execInx (s : State) : Out := .next (stepReg incr .x s)

/-- `C8`, `INY` (R165). -/
def execIny (s : State) : Out := .next (stepReg incr .y s)

/-- `C6 nn`, `DEC nn` (R166). -/
def execDecZp (nn : Byte) (s : State) : Out := .next (stepMem decr (.zp nn) s)

/-- `CE lo hi`, `DEC nnnn` (R166). -/
def execDecAbs (nnnn : Word) (s : State) : Out := .next (stepMem decr (.abs nnnn) s)

/-- `D6 nn`, `DEC nn,X` (R166). -/
def execDecZpx (nn : Byte) (s : State) : Out := .next (stepMem decr (.zpx nn) s)

/-- `DE lo hi`, `DEC nnnn,X` (R166). -/
def execDecAbx (nnnn : Word) (s : State) : Out := .next (stepMem decr (.abx nnnn) s)

/-- `CA`, `DEX` (R167). -/
def execDex (s : State) : Out := .next (stepReg decr .x s)

/-- `88`, `DEY` (R168). -/
def execDey (s : State) : Out := .next (stepReg decr .y s)

end Sys2Proof.Machine
end

