-- ==== Sys2Proof/Machine/Control.lean ====
section
/-! DEFINITION. Jump and control instructions (43_jump_control.md): jumps, calls and returns, branches, BRK, the flag
instructions and NOP.
One definition for each opcode byte, over the shared operations of Machine/Shared.lean. -/

namespace Sys2Proof.Machine

/-- `4C lo hi`, `JMP nnnn` (R191). -/
def execJmpAbs (nnnn : Word) (s : State) : Out := .next (s.jump nnnn)

/-- `6C lo hi`, `JMP (nnnn)` (R192). -/
def execJmpInd (nnnn : Word) (s : State) : Out :=
  .next ((s.log (s.rdWordOf .pointer nnnn (jumpHighAddr nnnn))).jump (s.readWord .pointer nnnn (jumpHighAddr nnnn)))

/-- `20 lo hi`, `JSR nnnn` (R193). -/
def execJsr (nnnn : Word) (s : State) : Out := .next ((s.pushWord (s.pc + 2)).jump nnnn)

/-- `60`, `RTS` (R194). -/
def execRts (s : State) : Out := .next (s.afterPull.afterPull.jump (s.pulledWord + 1))

/-- `40`, `RTI` (R195). -/
def execRti (s : State) : Out := .next s.returnFromInterrupt

/-- `10 dd`, `BPL disp` (R197). -/
def execBpl (dd : Byte) (s : State) : Out := .next (branch (!s.p.n) dd s)

/-- `30 dd`, `BMI disp` (R198). -/
def execBmi (dd : Byte) (s : State) : Out := .next (branch s.p.n dd s)

/-- `50 dd`, `BVC disp` (R199). -/
def execBvc (dd : Byte) (s : State) : Out := .next (branch (!s.p.v) dd s)

/-- `70 dd`, `BVS disp` (R200). -/
def execBvs (dd : Byte) (s : State) : Out := .next (branch s.p.v dd s)

/-- `90 dd`, `BCC disp` (R201). -/
def execBcc (dd : Byte) (s : State) : Out := .next (branch (!s.p.c) dd s)

/-- `B0 dd`, `BCS disp` (R202). -/
def execBcs (dd : Byte) (s : State) : Out := .next (branch s.p.c dd s)

/-- `D0 dd`, `BNE disp` (R203). -/
def execBne (dd : Byte) (s : State) : Out := .next (branch (!s.p.z) dd s)

/-- `F0 dd`, `BEQ disp` (R204). -/
def execBeq (dd : Byte) (s : State) : Out := .next (branch s.p.z dd s)

/-- `00`, `BRK` (R211). -/
def execBrk (s : State) : Out := .next (s.interrupt irqVector true (s.pc + 2))

/-- `18`, `CLC` (R212). -/
def execClc (s : State) : Out := .next (setFlags { s.p with c := false } s)

/-- `58`, `CLI` (R213). -/
def execCli (s : State) : Out := .next ((setFlags { s.p with i := false } s).noteOldI s.p.i)

/-- `D8`, `CLD` (R214). -/
def execCld (s : State) : Out := .next (setFlags { s.p with d := false } s)

/-- `B8`, `CLV` (R215). -/
def execClv (s : State) : Out := .next (setFlags { s.p with v := false } s)

/-- `38`, `SEC` (R216). -/
def execSec (s : State) : Out := .next (setFlags { s.p with c := true } s)

/-- `78`, `SEI` (R217). -/
def execSei (s : State) : Out := .next ((setFlags { s.p with i := true } s).noteOldI s.p.i)

/-- `F8`, `SED` (R218). -/
def execSed (s : State) : Out := .next (setFlags { s.p with d := true } s)

/-- `EA`, `NOP` (R219). -/
def execNop (s : State) : Out := .next (s.advance 1)

end Sys2Proof.Machine
end

