-- ==== Sys2Proof/Machine/Illegal.lean ====
section
/-! DEFINITION. The 105 illegal opcodes (44_illegal_opcodes.md): they execute, none traps (R230).
One definition for each opcode byte, over the shared operations of Machine/Shared.lean. -/

namespace Sys2Proof.Machine

/-- `83 nn`, `SAX (nn,X)` (R231). -/
def execSaxIzx (nn : Byte) (s : State) : Out := .next (store (.izx nn) (s.a &&& s.x) s)

/-- `87 nn`, `SAX nn` (R231). -/
def execSaxZp (nn : Byte) (s : State) : Out := .next (store (.zp nn) (s.a &&& s.x) s)

/-- `8F lo hi`, `SAX nnnn` (R231). -/
def execSaxAbs (nnnn : Word) (s : State) : Out := .next (store (.abs nnnn) (s.a &&& s.x) s)

/-- `97 nn`, `SAX nn,Y` (R231). -/
def execSaxZpy (nn : Byte) (s : State) : Out := .next (store (.zpy nn) (s.a &&& s.x) s)

/-- `A3 nn`, `LAX (nn,X)` (R232). -/
def execLaxIzx (nn : Byte) (s : State) : Out := .next (withOperand State.laxWith (.mem (.izx nn)) s)

/-- `A7 nn`, `LAX nn` (R232). -/
def execLaxZp (nn : Byte) (s : State) : Out := .next (withOperand State.laxWith (.mem (.zp nn)) s)

/-- `AF lo hi`, `LAX nnnn` (R232). -/
def execLaxAbs (nnnn : Word) (s : State) : Out := .next (withOperand State.laxWith (.mem (.abs nnnn)) s)

/-- `B3 nn`, `LAX (nn),Y` (R232). -/
def execLaxIzy (nn : Byte) (s : State) : Out := .next (withOperand State.laxWith (.mem (.izy nn)) s)

/-- `B7 nn`, `LAX nn,Y` (R232). -/
def execLaxZpy (nn : Byte) (s : State) : Out := .next (withOperand State.laxWith (.mem (.zpy nn)) s)

/-- `BF lo hi`, `LAX nnnn,X` (R232). -/
def execLaxAbx (nnnn : Word) (s : State) : Out :=
  .next (withOperand State.laxWith (.mem (laxBfForm s.cfg nnnn)) s)

/-- `03 nn`, `SLO (nn,X)` (R234). -/
def execSloIzx (nn : Byte) (s : State) : Out := .next (shiftThen shl State.oraA (.izx nn) s)

/-- `07 nn`, `SLO nn` (R234). -/
def execSloZp (nn : Byte) (s : State) : Out := .next (shiftThen shl State.oraA (.zp nn) s)

/-- `0F lo hi`, `SLO nnnn` (R234). -/
def execSloAbs (nnnn : Word) (s : State) : Out := .next (shiftThen shl State.oraA (.abs nnnn) s)

/-- `13 nn`, `SLO (nn),Y` (R234). -/
def execSloIzy (nn : Byte) (s : State) : Out := .next (shiftThen shl State.oraA (.izy nn) s)

/-- `17 nn`, `SLO nn,X` (R234). -/
def execSloZpx (nn : Byte) (s : State) : Out := .next (shiftThen shl State.oraA (.zpx nn) s)

/-- `1B lo hi`, `SLO nnnn,Y` (R234). -/
def execSloAby (nnnn : Word) (s : State) : Out := .next (shiftThen shl State.oraA (.aby nnnn) s)

/-- `1F lo hi`, `SLO nnnn,X` (R234). -/
def execSloAbx (nnnn : Word) (s : State) : Out := .next (shiftThen shl State.oraA (.abx nnnn) s)

/-- `23 nn`, `RLA (nn,X)` (R235). -/
def execRlaIzx (nn : Byte) (s : State) : Out := .next (shiftThen rcl State.andA (.izx nn) s)

/-- `27 nn`, `RLA nn` (R235). -/
def execRlaZp (nn : Byte) (s : State) : Out := .next (shiftThen rcl State.andA (.zp nn) s)

/-- `2F lo hi`, `RLA nnnn` (R235). -/
def execRlaAbs (nnnn : Word) (s : State) : Out := .next (shiftThen rcl State.andA (.abs nnnn) s)

/-- `33 nn`, `RLA (nn),Y` (R235). -/
def execRlaIzy (nn : Byte) (s : State) : Out := .next (shiftThen rcl State.andA (.izy nn) s)

/-- `37 nn`, `RLA nn,X` (R235). -/
def execRlaZpx (nn : Byte) (s : State) : Out := .next (shiftThen rcl State.andA (.zpx nn) s)

/-- `3B lo hi`, `RLA nnnn,Y` (R235). -/
def execRlaAby (nnnn : Word) (s : State) : Out := .next (shiftThen rcl State.andA (.aby nnnn) s)

/-- `3F lo hi`, `RLA nnnn,X` (R235). -/
def execRlaAbx (nnnn : Word) (s : State) : Out := .next (shiftThen rcl State.andA (.abx nnnn) s)

/-- `43 nn`, `SRE (nn,X)` (R236). -/
def execSreIzx (nn : Byte) (s : State) : Out := .next (shiftThen shr State.eorA (.izx nn) s)

/-- `47 nn`, `SRE nn` (R236). -/
def execSreZp (nn : Byte) (s : State) : Out := .next (shiftThen shr State.eorA (.zp nn) s)

/-- `4F lo hi`, `SRE nnnn` (R236). -/
def execSreAbs (nnnn : Word) (s : State) : Out := .next (shiftThen shr State.eorA (.abs nnnn) s)

/-- `53 nn`, `SRE (nn),Y` (R236). -/
def execSreIzy (nn : Byte) (s : State) : Out := .next (shiftThen shr State.eorA (.izy nn) s)

/-- `57 nn`, `SRE nn,X` (R236). -/
def execSreZpx (nn : Byte) (s : State) : Out := .next (shiftThen shr State.eorA (.zpx nn) s)

/-- `5B lo hi`, `SRE nnnn,Y` (R236). -/
def execSreAby (nnnn : Word) (s : State) : Out := .next (shiftThen shr State.eorA (.aby nnnn) s)

/-- `5F lo hi`, `SRE nnnn,X` (R236). -/
def execSreAbx (nnnn : Word) (s : State) : Out := .next (shiftThen shr State.eorA (.abx nnnn) s)

/-- `63 nn`, `RRA (nn,X)` (R237). -/
def execRraIzx (nn : Byte) (s : State) : Out := .next (shiftThen rcr State.adc (.izx nn) s)

/-- `67 nn`, `RRA nn` (R237). -/
def execRraZp (nn : Byte) (s : State) : Out := .next (shiftThen rcr State.adc (.zp nn) s)

/-- `6F lo hi`, `RRA nnnn` (R237). -/
def execRraAbs (nnnn : Word) (s : State) : Out := .next (shiftThen rcr State.adc (.abs nnnn) s)

/-- `73 nn`, `RRA (nn),Y` (R237). -/
def execRraIzy (nn : Byte) (s : State) : Out := .next (shiftThen rcr State.adc (.izy nn) s)

/-- `77 nn`, `RRA nn,X` (R237). -/
def execRraZpx (nn : Byte) (s : State) : Out := .next (shiftThen rcr State.adc (.zpx nn) s)

/-- `7B lo hi`, `RRA nnnn,Y` (R237). -/
def execRraAby (nnnn : Word) (s : State) : Out := .next (shiftThen rcr State.adc (.aby nnnn) s)

/-- `7F lo hi`, `RRA nnnn,X` (R237). -/
def execRraAbx (nnnn : Word) (s : State) : Out := .next (shiftThen rcr State.adc (.abx nnnn) s)

/-- `C3 nn`, `DCP (nn,X)` (R238). -/
def execDcpIzx (nn : Byte) (s : State) : Out :=
  .next (stepThen decr (fun t m => t.compareWith .a m) (.izx nn) s)

/-- `C7 nn`, `DCP nn` (R238). -/
def execDcpZp (nn : Byte) (s : State) : Out := .next (stepThen decr (fun t m => t.compareWith .a m) (.zp nn) s)

/-- `CF lo hi`, `DCP nnnn` (R238). -/
def execDcpAbs (nnnn : Word) (s : State) : Out :=
  .next (stepThen decr (fun t m => t.compareWith .a m) (.abs nnnn) s)

/-- `D3 nn`, `DCP (nn),Y` (R238). -/
def execDcpIzy (nn : Byte) (s : State) : Out :=
  .next (stepThen decr (fun t m => t.compareWith .a m) (.izy nn) s)

/-- `D7 nn`, `DCP nn,X` (R238). -/
def execDcpZpx (nn : Byte) (s : State) : Out :=
  .next (stepThen decr (fun t m => t.compareWith .a m) (.zpx nn) s)

/-- `DB lo hi`, `DCP nnnn,Y` (R238). -/
def execDcpAby (nnnn : Word) (s : State) : Out :=
  .next (stepThen decr (fun t m => t.compareWith .a m) (.aby nnnn) s)

/-- `DF lo hi`, `DCP nnnn,X` (R238). -/
def execDcpAbx (nnnn : Word) (s : State) : Out :=
  .next (stepThen decr (fun t m => t.compareWith .a m) (.abx nnnn) s)

/-- `E3 nn`, `ISC (nn,X)` (R239). -/
def execIscIzx (nn : Byte) (s : State) : Out := .next (stepThen incr State.sbc (.izx nn) s)

/-- `E7 nn`, `ISC nn` (R239). -/
def execIscZp (nn : Byte) (s : State) : Out := .next (stepThen incr State.sbc (.zp nn) s)

/-- `EF lo hi`, `ISC nnnn` (R239). -/
def execIscAbs (nnnn : Word) (s : State) : Out := .next (stepThen incr State.sbc (.abs nnnn) s)

/-- `F3 nn`, `ISC (nn),Y` (R239). -/
def execIscIzy (nn : Byte) (s : State) : Out := .next (stepThen incr State.sbc (.izy nn) s)

/-- `F7 nn`, `ISC nn,X` (R239). -/
def execIscZpx (nn : Byte) (s : State) : Out := .next (stepThen incr State.sbc (.zpx nn) s)

/-- `FB lo hi`, `ISC nnnn,Y` (R239). -/
def execIscAby (nnnn : Word) (s : State) : Out := .next (stepThen incr State.sbc (.aby nnnn) s)

/-- `FF lo hi`, `ISC nnnn,X` (R239). -/
def execIscAbx (nnnn : Word) (s : State) : Out := .next (stepThen incr State.sbc (.abx nnnn) s)

/-- `0B nn`, `ANC #nn` (R255). -/
def execAnc0B (nn : Byte) (s : State) : Out := .next (withOperand State.anc (.imm nn) s)

/-- `2B nn`, `ANC #nn` (R255). -/
def execAnc2B (nn : Byte) (s : State) : Out := .next (withOperand State.anc (.imm nn) s)

/-- `4B nn`, `ALR #nn` (R256). -/
def execAlr (nn : Byte) (s : State) : Out := .next (withOperand State.alr (.imm nn) s)

/-- `6B nn`, `ARR #nn` (R258). -/
def execArr (nn : Byte) (s : State) : Out := .next (withOperand State.arr (.imm nn) s)

/-- `8B nn`, `XAA #nn` (R259). -/
def execXaa (_nn : Byte) (s : State) : Out := .next (s.xaa.advance 2)

/-- `AB nn`, `LAX #nn` (R260). -/
def execLaxImm (_nn : Byte) (s : State) : Out := .next (s.laxImmediate.advance 2)

/-- `CB nn`, `AXS #nn` (R261). -/
def execAxs (nn : Byte) (s : State) : Out := .next (withOperand State.axs (.imm nn) s)

/-- `EB nn`, `SBC #nn` (R262). -/
def execSbcImmEB (nn : Byte) (s : State) : Out := .next (withOperand State.sbc (.imm nn) s)

/-- `93 nn`, `AHX (nn),Y` (R263). -/
def execAhxIzy (nn : Byte) (s : State) : Out := .next (unstableStore (.izy nn) s)

/-- `9F lo hi`, `AHX nnnn,Y` (R263). -/
def execAhxAby (nnnn : Word) (s : State) : Out := .next (unstableStore (.aby nnnn) s)

/-- `9C lo hi`, `SHY nnnn,X` (R264). -/
def execShy (nnnn : Word) (s : State) : Out := .next (unstableStore (.abx nnnn) s)

/-- `9E lo hi`, `SHX nnnn,Y` (R265). -/
def execShx (nnnn : Word) (s : State) : Out := .next (unstableStore (.aby nnnn) s)

/-- `9B lo hi`, `TAS nnnn,Y` (R266). -/
def execTas (nnnn : Word) (s : State) : Out := .next (unstableStore (.aby nnnn) (s.set .sp (s.a &&& s.x)))

/-- `BB lo hi`, `LAS nnnn,Y` (R267). -/
def execLas (nnnn : Word) (s : State) : Out := .next (withOperand State.las (.mem (.aby nnnn)) s)

/-- `04 nn`, `NOP nn` (R268). -/
def execNopZp04 (nn : Byte) (s : State) : Out := .next (readOnly (.zp nn) s)

/-- `0C lo hi`, `NOP nnnn` (R268). -/
def execNopAbs0C (nnnn : Word) (s : State) : Out := .next (readOnly (.abs nnnn) s)

/-- `14 nn`, `NOP nn,X` (R268). -/
def execNopZpx14 (nn : Byte) (s : State) : Out := .next (readOnly (.zpx nn) s)

/-- `1A`, `NOP` (R268). -/
def execNop1A (s : State) : Out := .next (s.advance 1)

/-- `1C lo hi`, `NOP nnnn,X` (R268). -/
def execNopAbx1C (nnnn : Word) (s : State) : Out := .next (readOnly (.abx nnnn) s)

/-- `34 nn`, `NOP nn,X` (R268). -/
def execNopZpx34 (nn : Byte) (s : State) : Out := .next (readOnly (.zpx nn) s)

/-- `3A`, `NOP` (R268). -/
def execNop3A (s : State) : Out := .next (s.advance 1)

/-- `3C lo hi`, `NOP nnnn,X` (R268). -/
def execNopAbx3C (nnnn : Word) (s : State) : Out := .next (readOnly (.abx nnnn) s)

/-- `44 nn`, `NOP nn` (R268). -/
def execNopZp44 (nn : Byte) (s : State) : Out := .next (readOnly (.zp nn) s)

/-- `54 nn`, `NOP nn,X` (R268). -/
def execNopZpx54 (nn : Byte) (s : State) : Out := .next (readOnly (.zpx nn) s)

/-- `5A`, `NOP` (R268). -/
def execNop5A (s : State) : Out := .next (s.advance 1)

/-- `5C lo hi`, `NOP nnnn,X` (R268). -/
def execNopAbx5C (nnnn : Word) (s : State) : Out := .next (readOnly (.abx nnnn) s)

/-- `64 nn`, `NOP nn` (R268). -/
def execNopZp64 (nn : Byte) (s : State) : Out := .next (readOnly (.zp nn) s)

/-- `74 nn`, `NOP nn,X` (R268). -/
def execNopZpx74 (nn : Byte) (s : State) : Out := .next (readOnly (.zpx nn) s)

/-- `7A`, `NOP` (R268). -/
def execNop7A (s : State) : Out := .next (s.advance 1)

/-- `7C lo hi`, `NOP nnnn,X` (R268). -/
def execNopAbx7C (nnnn : Word) (s : State) : Out := .next (readOnly (.abx nnnn) s)

/-- `80 nn`, `NOP #nn` (R268). -/
def execNopImm80 (_nn : Byte) (s : State) : Out := .next (s.advance 2)

/-- `82 nn`, `NOP #nn` (R268). -/
def execNopImm82 (_nn : Byte) (s : State) : Out := .next (s.advance 2)

/-- `89 nn`, `NOP #nn` (R268). -/
def execNopImm89 (_nn : Byte) (s : State) : Out := .next (s.advance 2)

/-- `C2 nn`, `NOP #nn` (R268). -/
def execNopImmC2 (_nn : Byte) (s : State) : Out := .next (s.advance 2)

/-- `D4 nn`, `NOP nn,X` (R268). -/
def execNopZpxD4 (nn : Byte) (s : State) : Out := .next (readOnly (.zpx nn) s)

/-- `DA`, `NOP` (R268). -/
def execNopDA (s : State) : Out := .next (s.advance 1)

/-- `DC lo hi`, `NOP nnnn,X` (R268). -/
def execNopAbxDC (nnnn : Word) (s : State) : Out := .next (readOnly (.abx nnnn) s)

/-- `E2 nn`, `NOP #nn` (R268). -/
def execNopImmE2 (_nn : Byte) (s : State) : Out := .next (s.advance 2)

/-- `F4 nn`, `NOP nn,X` (R268). -/
def execNopZpxF4 (nn : Byte) (s : State) : Out := .next (readOnly (.zpx nn) s)

/-- `FA`, `NOP` (R268). -/
def execNopFA (s : State) : Out := .next (s.advance 1)

/-- `FC lo hi`, `NOP nnnn,X` (R268). -/
def execNopAbxFC (nnnn : Word) (s : State) : Out := .next (readOnly (.abx nnnn) s)

/-- `02`, `KIL` (R270). -/
def execKil02 (s : State) : Out := .next s.halt

/-- `12`, `KIL` (R270). -/
def execKil12 (s : State) : Out := .next s.halt

/-- `22`, `KIL` (R270). -/
def execKil22 (s : State) : Out := .next s.halt

/-- `32`, `KIL` (R270). -/
def execKil32 (s : State) : Out := .next s.halt

/-- `42`, `KIL` (R270). -/
def execKil42 (s : State) : Out := .next s.halt

/-- `52`, `KIL` (R270). -/
def execKil52 (s : State) : Out := .next s.halt

/-- `62`, `KIL` (R270). -/
def execKil62 (s : State) : Out := .next s.halt

/-- `72`, `KIL` (R270). -/
def execKil72 (s : State) : Out := .next s.halt

/-- `92`, `KIL` (R270). -/
def execKil92 (s : State) : Out := .next s.halt

/-- `B2`, `KIL` (R270). -/
def execKilB2 (s : State) : Out := .next s.halt

/-- `D2`, `KIL` (R270). -/
def execKilD2 (s : State) : Out := .next s.halt

/-- `F2`, `KIL` (R270). -/
def execKilF2 (s : State) : Out := .next s.halt

end Sys2Proof.Machine
end

