-- ==== Sys2Proof/Machine/Shifts.lean ====
section
/-! DEFINITION. Rotate and shift instructions (42_rotate_shift.md), each in five forms.
One definition for each opcode byte, over the shared operations of Machine/Shared.lean. -/

namespace Sys2Proof.Machine

/-- `06 nn`, `ASL nn` (R181). -/
def execAslZp (nn : Byte) (s : State) : Out := .next (shiftMem shl (.zp nn) s)

/-- `0A`, `ASL A` (R181). -/
def execAslAcc (s : State) : Out := .next (shiftAcc shl s)

/-- `0E lo hi`, `ASL nnnn` (R181). -/
def execAslAbs (nnnn : Word) (s : State) : Out := .next (shiftMem shl (.abs nnnn) s)

/-- `16 nn`, `ASL nn,X` (R181). -/
def execAslZpx (nn : Byte) (s : State) : Out := .next (shiftMem shl (.zpx nn) s)

/-- `1E lo hi`, `ASL nnnn,X` (R181). -/
def execAslAbx (nnnn : Word) (s : State) : Out := .next (shiftMem shl (.abx nnnn) s)

/-- `46 nn`, `LSR nn` (R182). -/
def execLsrZp (nn : Byte) (s : State) : Out := .next (shiftMem shr (.zp nn) s)

/-- `4A`, `LSR A` (R182). -/
def execLsrAcc (s : State) : Out := .next (shiftAcc shr s)

/-- `4E lo hi`, `LSR nnnn` (R182). -/
def execLsrAbs (nnnn : Word) (s : State) : Out := .next (shiftMem shr (.abs nnnn) s)

/-- `56 nn`, `LSR nn,X` (R182). -/
def execLsrZpx (nn : Byte) (s : State) : Out := .next (shiftMem shr (.zpx nn) s)

/-- `5E lo hi`, `LSR nnnn,X` (R182). -/
def execLsrAbx (nnnn : Word) (s : State) : Out := .next (shiftMem shr (.abx nnnn) s)

/-- `26 nn`, `ROL nn` (R183). -/
def execRolZp (nn : Byte) (s : State) : Out := .next (shiftMem rcl (.zp nn) s)

/-- `2A`, `ROL A` (R183). -/
def execRolAcc (s : State) : Out := .next (shiftAcc rcl s)

/-- `2E lo hi`, `ROL nnnn` (R183). -/
def execRolAbs (nnnn : Word) (s : State) : Out := .next (shiftMem rcl (.abs nnnn) s)

/-- `36 nn`, `ROL nn,X` (R183). -/
def execRolZpx (nn : Byte) (s : State) : Out := .next (shiftMem rcl (.zpx nn) s)

/-- `3E lo hi`, `ROL nnnn,X` (R183). -/
def execRolAbx (nnnn : Word) (s : State) : Out := .next (shiftMem rcl (.abx nnnn) s)

/-- `66 nn`, `ROR nn` (R184). -/
def execRorZp (nn : Byte) (s : State) : Out := ifRor s (shiftMem rcr (.zp nn) s)

/-- `6A`, `ROR A` (R184). -/
def execRorAcc (s : State) : Out := ifRor s (shiftAcc rcr s)

/-- `6E lo hi`, `ROR nnnn` (R184). -/
def execRorAbs (nnnn : Word) (s : State) : Out := ifRor s (shiftMem rcr (.abs nnnn) s)

/-- `76 nn`, `ROR nn,X` (R184). -/
def execRorZpx (nn : Byte) (s : State) : Out := ifRor s (shiftMem rcr (.zpx nn) s)

/-- `7E lo hi`, `ROR nnnn,X` (R184). -/
def execRorAbx (nnnn : Word) (s : State) : Out := ifRor s (shiftMem rcr (.abx nnnn) s)

end Sys2Proof.Machine
end

