-- ==== Sys2Proof/Machine/Transfers.lean ====
section
/-! DEFINITION. Memory and register transfer instructions (40_transfers.md): the register transfers, the loads and stores of
A, X and Y, push and pull.
One definition for each opcode byte, over the shared operations of Machine/Shared.lean. -/

namespace Sys2Proof.Machine

/-- `A8`, `TAY` (R131). -/
def execTay (s : State) : Out := .next (transfer .y .a s)

/-- `AA`, `TAX` (R132). -/
def execTax (s : State) : Out := .next (transfer .x .a s)

/-- `BA`, `TSX` (R133). -/
def execTsx (s : State) : Out := .next (transfer .x .sp s)

/-- `98`, `TYA` (R134). -/
def execTya (s : State) : Out := .next (transfer .a .y s)

/-- `8A`, `TXA` (R135). -/
def execTxa (s : State) : Out := .next (transfer .a .x s)

/-- `9A`, `TXS` (R136). -/
def execTxs (s : State) : Out := .next ((s.set .sp s.x).advance 1)

/-- `A1 nn`, `LDA (nn,X)` (R137). -/
def execLdaIzx (nn : Byte) (s : State) : Out := .next (load .a (.mem (.izx nn)) s)

/-- `A5 nn`, `LDA nn` (R137). -/
def execLdaZp (nn : Byte) (s : State) : Out := .next (load .a (.mem (.zp nn)) s)

/-- `A9 nn`, `LDA #nn` (R137). -/
def execLdaImm (nn : Byte) (s : State) : Out := .next (load .a (.imm nn) s)

/-- `AD lo hi`, `LDA nnnn` (R137). -/
def execLdaAbs (nnnn : Word) (s : State) : Out := .next (load .a (.mem (.abs nnnn)) s)

/-- `B1 nn`, `LDA (nn),Y` (R137). -/
def execLdaIzy (nn : Byte) (s : State) : Out := .next (load .a (.mem (.izy nn)) s)

/-- `B5 nn`, `LDA nn,X` (R137). -/
def execLdaZpx (nn : Byte) (s : State) : Out := .next (load .a (.mem (.zpx nn)) s)

/-- `B9 lo hi`, `LDA nnnn,Y` (R137). -/
def execLdaAby (nnnn : Word) (s : State) : Out := .next (load .a (.mem (.aby nnnn)) s)

/-- `BD lo hi`, `LDA nnnn,X` (R137). -/
def execLdaAbx (nnnn : Word) (s : State) : Out := .next (load .a (.mem (.abx nnnn)) s)

/-- `A2 nn`, `LDX #nn` (R138). -/
def execLdxImm (nn : Byte) (s : State) : Out := .next (load .x (.imm nn) s)

/-- `A6 nn`, `LDX nn` (R138). -/
def execLdxZp (nn : Byte) (s : State) : Out := .next (load .x (.mem (.zp nn)) s)

/-- `AE lo hi`, `LDX nnnn` (R138). -/
def execLdxAbs (nnnn : Word) (s : State) : Out := .next (load .x (.mem (.abs nnnn)) s)

/-- `B6 nn`, `LDX nn,Y` (R138). -/
def execLdxZpy (nn : Byte) (s : State) : Out := .next (load .x (.mem (.zpy nn)) s)

/-- `BE lo hi`, `LDX nnnn,Y` (R138). -/
def execLdxAby (nnnn : Word) (s : State) : Out := .next (load .x (.mem (.aby nnnn)) s)

/-- `A0 nn`, `LDY #nn` (R139). -/
def execLdyImm (nn : Byte) (s : State) : Out := .next (load .y (.imm nn) s)

/-- `A4 nn`, `LDY nn` (R139). -/
def execLdyZp (nn : Byte) (s : State) : Out := .next (load .y (.mem (.zp nn)) s)

/-- `AC lo hi`, `LDY nnnn` (R139). -/
def execLdyAbs (nnnn : Word) (s : State) : Out := .next (load .y (.mem (.abs nnnn)) s)

/-- `B4 nn`, `LDY nn,X` (R139). -/
def execLdyZpx (nn : Byte) (s : State) : Out := .next (load .y (.mem (.zpx nn)) s)

/-- `BC lo hi`, `LDY nnnn,X` (R139). -/
def execLdyAbx (nnnn : Word) (s : State) : Out := .next (load .y (.mem (.abx nnnn)) s)

/-- `81 nn`, `STA (nn,X)` (R140). -/
def execStaIzx (nn : Byte) (s : State) : Out := .next (store (.izx nn) s.a s)

/-- `85 nn`, `STA nn` (R140). -/
def execStaZp (nn : Byte) (s : State) : Out := .next (store (.zp nn) s.a s)

/-- `8D lo hi`, `STA nnnn` (R140). -/
def execStaAbs (nnnn : Word) (s : State) : Out := .next (store (.abs nnnn) s.a s)

/-- `91 nn`, `STA (nn),Y` (R140). -/
def execStaIzy (nn : Byte) (s : State) : Out := .next (store (.izy nn) s.a s)

/-- `95 nn`, `STA nn,X` (R140). -/
def execStaZpx (nn : Byte) (s : State) : Out := .next (store (.zpx nn) s.a s)

/-- `99 lo hi`, `STA nnnn,Y` (R140). -/
def execStaAby (nnnn : Word) (s : State) : Out := .next (store (.aby nnnn) s.a s)

/-- `9D lo hi`, `STA nnnn,X` (R140). -/
def execStaAbx (nnnn : Word) (s : State) : Out := .next (store (.abx nnnn) s.a s)

/-- `86 nn`, `STX nn` (R141). -/
def execStxZp (nn : Byte) (s : State) : Out := .next (store (.zp nn) s.x s)

/-- `8E lo hi`, `STX nnnn` (R141). -/
def execStxAbs (nnnn : Word) (s : State) : Out := .next (store (.abs nnnn) s.x s)

/-- `96 nn`, `STX nn,Y` (R141). -/
def execStxZpy (nn : Byte) (s : State) : Out := .next (store (.zpy nn) s.x s)

/-- `84 nn`, `STY nn` (R142). -/
def execStyZp (nn : Byte) (s : State) : Out := .next (store (.zp nn) s.y s)

/-- `8C lo hi`, `STY nnnn` (R142). -/
def execStyAbs (nnnn : Word) (s : State) : Out := .next (store (.abs nnnn) s.y s)

/-- `94 nn`, `STY nn,X` (R142). -/
def execStyZpx (nn : Byte) (s : State) : Out := .next (store (.zpx nn) s.y s)

/-- `48`, `PHA` (R143). -/
def execPha (s : State) : Out := .next ((s.push s.a).advance 1)

/-- `08`, `PHP` (R144). -/
def execPhp (s : State) : Out := .next ((s.push (s.p.pByte true)).advance 1)

/-- `68`, `PLA` (R145). -/
def execPla (s : State) : Out := .next ((s.afterPull.move .a s.pulled).advance 1)

/-- `28`, `PLP` (R146). -/
def execPlp (s : State) : Out := .next (((s.afterPull.setP (Flags.ofByte s.pulled)).noteOldI s.p.i).advance 1)

end Sys2Proof.Machine
end

