-- ==== Sys2Proof/Machine/Dispatch.lean ====
section
/-! DEFINITION. What each instruction does: one arm for each constructor of Instr, one direct call of its meaning. -/

namespace Sys2Proof.Machine

-- The meaning of an instruction whose opcode byte stands at PC (30_encoding.md R93).
def exec (i : Instr) (s : State) : Host.Outcome State Fault Refusal :=
  match i with
  | .brk => Sys2Proof.Machine.execBrk s
  | .oraIzx nn => Sys2Proof.Machine.execOraIzx nn s
  | .kil02 => Sys2Proof.Machine.execKil02 s
  | .sloIzx nn => Sys2Proof.Machine.execSloIzx nn s
  | .nopZp04 nn => Sys2Proof.Machine.execNopZp04 nn s
  | .oraZp nn => Sys2Proof.Machine.execOraZp nn s
  | .aslZp nn => Sys2Proof.Machine.execAslZp nn s
  | .sloZp nn => Sys2Proof.Machine.execSloZp nn s
  | .php => Sys2Proof.Machine.execPhp s
  | .oraImm nn => Sys2Proof.Machine.execOraImm nn s
  | .aslAcc => Sys2Proof.Machine.execAslAcc s
  | .anc0B nn => Sys2Proof.Machine.execAnc0B nn s
  | .nopAbs0C nnnn => Sys2Proof.Machine.execNopAbs0C nnnn s
  | .oraAbs nnnn => Sys2Proof.Machine.execOraAbs nnnn s
  | .aslAbs nnnn => Sys2Proof.Machine.execAslAbs nnnn s
  | .sloAbs nnnn => Sys2Proof.Machine.execSloAbs nnnn s
  | .bpl dd => Sys2Proof.Machine.execBpl dd s
  | .oraIzy nn => Sys2Proof.Machine.execOraIzy nn s
  | .kil12 => Sys2Proof.Machine.execKil12 s
  | .sloIzy nn => Sys2Proof.Machine.execSloIzy nn s
  | .nopZpx14 nn => Sys2Proof.Machine.execNopZpx14 nn s
  | .oraZpx nn => Sys2Proof.Machine.execOraZpx nn s
  | .aslZpx nn => Sys2Proof.Machine.execAslZpx nn s
  | .sloZpx nn => Sys2Proof.Machine.execSloZpx nn s
  | .clc => Sys2Proof.Machine.execClc s
  | .oraAby nnnn => Sys2Proof.Machine.execOraAby nnnn s
  | .nop1A => Sys2Proof.Machine.execNop1A s
  | .sloAby nnnn => Sys2Proof.Machine.execSloAby nnnn s
  | .nopAbx1C nnnn => Sys2Proof.Machine.execNopAbx1C nnnn s
  | .oraAbx nnnn => Sys2Proof.Machine.execOraAbx nnnn s
  | .aslAbx nnnn => Sys2Proof.Machine.execAslAbx nnnn s
  | .sloAbx nnnn => Sys2Proof.Machine.execSloAbx nnnn s
  | .jsr nnnn => Sys2Proof.Machine.execJsr nnnn s
  | .andIzx nn => Sys2Proof.Machine.execAndIzx nn s
  | .kil22 => Sys2Proof.Machine.execKil22 s
  | .rlaIzx nn => Sys2Proof.Machine.execRlaIzx nn s
  | .bitZp nn => Sys2Proof.Machine.execBitZp nn s
  | .andZp nn => Sys2Proof.Machine.execAndZp nn s
  | .rolZp nn => Sys2Proof.Machine.execRolZp nn s
  | .rlaZp nn => Sys2Proof.Machine.execRlaZp nn s
  | .plp => Sys2Proof.Machine.execPlp s
  | .andImm nn => Sys2Proof.Machine.execAndImm nn s
  | .rolAcc => Sys2Proof.Machine.execRolAcc s
  | .anc2B nn => Sys2Proof.Machine.execAnc2B nn s
  | .bitAbs nnnn => Sys2Proof.Machine.execBitAbs nnnn s
  | .andAbs nnnn => Sys2Proof.Machine.execAndAbs nnnn s
  | .rolAbs nnnn => Sys2Proof.Machine.execRolAbs nnnn s
  | .rlaAbs nnnn => Sys2Proof.Machine.execRlaAbs nnnn s
  | .bmi dd => Sys2Proof.Machine.execBmi dd s
  | .andIzy nn => Sys2Proof.Machine.execAndIzy nn s
  | .kil32 => Sys2Proof.Machine.execKil32 s
  | .rlaIzy nn => Sys2Proof.Machine.execRlaIzy nn s
  | .nopZpx34 nn => Sys2Proof.Machine.execNopZpx34 nn s
  | .andZpx nn => Sys2Proof.Machine.execAndZpx nn s
  | .rolZpx nn => Sys2Proof.Machine.execRolZpx nn s
  | .rlaZpx nn => Sys2Proof.Machine.execRlaZpx nn s
  | .sec => Sys2Proof.Machine.execSec s
  | .andAby nnnn => Sys2Proof.Machine.execAndAby nnnn s
  | .nop3A => Sys2Proof.Machine.execNop3A s
  | .rlaAby nnnn => Sys2Proof.Machine.execRlaAby nnnn s
  | .nopAbx3C nnnn => Sys2Proof.Machine.execNopAbx3C nnnn s
  | .andAbx nnnn => Sys2Proof.Machine.execAndAbx nnnn s
  | .rolAbx nnnn => Sys2Proof.Machine.execRolAbx nnnn s
  | .rlaAbx nnnn => Sys2Proof.Machine.execRlaAbx nnnn s
  | .rti => Sys2Proof.Machine.execRti s
  | .eorIzx nn => Sys2Proof.Machine.execEorIzx nn s
  | .kil42 => Sys2Proof.Machine.execKil42 s
  | .sreIzx nn => Sys2Proof.Machine.execSreIzx nn s
  | .nopZp44 nn => Sys2Proof.Machine.execNopZp44 nn s
  | .eorZp nn => Sys2Proof.Machine.execEorZp nn s
  | .lsrZp nn => Sys2Proof.Machine.execLsrZp nn s
  | .sreZp nn => Sys2Proof.Machine.execSreZp nn s
  | .pha => Sys2Proof.Machine.execPha s
  | .eorImm nn => Sys2Proof.Machine.execEorImm nn s
  | .lsrAcc => Sys2Proof.Machine.execLsrAcc s
  | .alr nn => Sys2Proof.Machine.execAlr nn s
  | .jmpAbs nnnn => Sys2Proof.Machine.execJmpAbs nnnn s
  | .eorAbs nnnn => Sys2Proof.Machine.execEorAbs nnnn s
  | .lsrAbs nnnn => Sys2Proof.Machine.execLsrAbs nnnn s
  | .sreAbs nnnn => Sys2Proof.Machine.execSreAbs nnnn s
  | .bvc dd => Sys2Proof.Machine.execBvc dd s
  | .eorIzy nn => Sys2Proof.Machine.execEorIzy nn s
  | .kil52 => Sys2Proof.Machine.execKil52 s
  | .sreIzy nn => Sys2Proof.Machine.execSreIzy nn s
  | .nopZpx54 nn => Sys2Proof.Machine.execNopZpx54 nn s
  | .eorZpx nn => Sys2Proof.Machine.execEorZpx nn s
  | .lsrZpx nn => Sys2Proof.Machine.execLsrZpx nn s
  | .sreZpx nn => Sys2Proof.Machine.execSreZpx nn s
  | .cli => Sys2Proof.Machine.execCli s
  | .eorAby nnnn => Sys2Proof.Machine.execEorAby nnnn s
  | .nop5A => Sys2Proof.Machine.execNop5A s
  | .sreAby nnnn => Sys2Proof.Machine.execSreAby nnnn s
  | .nopAbx5C nnnn => Sys2Proof.Machine.execNopAbx5C nnnn s
  | .eorAbx nnnn => Sys2Proof.Machine.execEorAbx nnnn s
  | .lsrAbx nnnn => Sys2Proof.Machine.execLsrAbx nnnn s
  | .sreAbx nnnn => Sys2Proof.Machine.execSreAbx nnnn s
  | .rts => Sys2Proof.Machine.execRts s
  | .adcIzx nn => Sys2Proof.Machine.execAdcIzx nn s
  | .kil62 => Sys2Proof.Machine.execKil62 s
  | .rraIzx nn => Sys2Proof.Machine.execRraIzx nn s
  | .nopZp64 nn => Sys2Proof.Machine.execNopZp64 nn s
  | .adcZp nn => Sys2Proof.Machine.execAdcZp nn s
  | .rorZp nn => Sys2Proof.Machine.execRorZp nn s
  | .rraZp nn => Sys2Proof.Machine.execRraZp nn s
  | .pla => Sys2Proof.Machine.execPla s
  | .adcImm nn => Sys2Proof.Machine.execAdcImm nn s
  | .rorAcc => Sys2Proof.Machine.execRorAcc s
  | .arr nn => Sys2Proof.Machine.execArr nn s
  | .jmpInd nnnn => Sys2Proof.Machine.execJmpInd nnnn s
  | .adcAbs nnnn => Sys2Proof.Machine.execAdcAbs nnnn s
  | .rorAbs nnnn => Sys2Proof.Machine.execRorAbs nnnn s
  | .rraAbs nnnn => Sys2Proof.Machine.execRraAbs nnnn s
  | .bvs dd => Sys2Proof.Machine.execBvs dd s
  | .adcIzy nn => Sys2Proof.Machine.execAdcIzy nn s
  | .kil72 => Sys2Proof.Machine.execKil72 s
  | .rraIzy nn => Sys2Proof.Machine.execRraIzy nn s
  | .nopZpx74 nn => Sys2Proof.Machine.execNopZpx74 nn s
  | .adcZpx nn => Sys2Proof.Machine.execAdcZpx nn s
  | .rorZpx nn => Sys2Proof.Machine.execRorZpx nn s
  | .rraZpx nn => Sys2Proof.Machine.execRraZpx nn s
  | .sei => Sys2Proof.Machine.execSei s
  | .adcAby nnnn => Sys2Proof.Machine.execAdcAby nnnn s
  | .nop7A => Sys2Proof.Machine.execNop7A s
  | .rraAby nnnn => Sys2Proof.Machine.execRraAby nnnn s
  | .nopAbx7C nnnn => Sys2Proof.Machine.execNopAbx7C nnnn s
  | .adcAbx nnnn => Sys2Proof.Machine.execAdcAbx nnnn s
  | .rorAbx nnnn => Sys2Proof.Machine.execRorAbx nnnn s
  | .rraAbx nnnn => Sys2Proof.Machine.execRraAbx nnnn s
  | .nopImm80 nn => Sys2Proof.Machine.execNopImm80 nn s
  | .staIzx nn => Sys2Proof.Machine.execStaIzx nn s
  | .nopImm82 nn => Sys2Proof.Machine.execNopImm82 nn s
  | .saxIzx nn => Sys2Proof.Machine.execSaxIzx nn s
  | .styZp nn => Sys2Proof.Machine.execStyZp nn s
  | .staZp nn => Sys2Proof.Machine.execStaZp nn s
  | .stxZp nn => Sys2Proof.Machine.execStxZp nn s
  | .saxZp nn => Sys2Proof.Machine.execSaxZp nn s
  | .dey => Sys2Proof.Machine.execDey s
  | .nopImm89 nn => Sys2Proof.Machine.execNopImm89 nn s
  | .txa => Sys2Proof.Machine.execTxa s
  | .xaa nn => Sys2Proof.Machine.execXaa nn s
  | .styAbs nnnn => Sys2Proof.Machine.execStyAbs nnnn s
  | .staAbs nnnn => Sys2Proof.Machine.execStaAbs nnnn s
  | .stxAbs nnnn => Sys2Proof.Machine.execStxAbs nnnn s
  | .saxAbs nnnn => Sys2Proof.Machine.execSaxAbs nnnn s
  | .bcc dd => Sys2Proof.Machine.execBcc dd s
  | .staIzy nn => Sys2Proof.Machine.execStaIzy nn s
  | .kil92 => Sys2Proof.Machine.execKil92 s
  | .ahxIzy nn => Sys2Proof.Machine.execAhxIzy nn s
  | .styZpx nn => Sys2Proof.Machine.execStyZpx nn s
  | .staZpx nn => Sys2Proof.Machine.execStaZpx nn s
  | .stxZpy nn => Sys2Proof.Machine.execStxZpy nn s
  | .saxZpy nn => Sys2Proof.Machine.execSaxZpy nn s
  | .tya => Sys2Proof.Machine.execTya s
  | .staAby nnnn => Sys2Proof.Machine.execStaAby nnnn s
  | .txs => Sys2Proof.Machine.execTxs s
  | .tas nnnn => Sys2Proof.Machine.execTas nnnn s
  | .shy nnnn => Sys2Proof.Machine.execShy nnnn s
  | .staAbx nnnn => Sys2Proof.Machine.execStaAbx nnnn s
  | .shx nnnn => Sys2Proof.Machine.execShx nnnn s
  | .ahxAby nnnn => Sys2Proof.Machine.execAhxAby nnnn s
  | .ldyImm nn => Sys2Proof.Machine.execLdyImm nn s
  | .ldaIzx nn => Sys2Proof.Machine.execLdaIzx nn s
  | .ldxImm nn => Sys2Proof.Machine.execLdxImm nn s
  | .laxIzx nn => Sys2Proof.Machine.execLaxIzx nn s
  | .ldyZp nn => Sys2Proof.Machine.execLdyZp nn s
  | .ldaZp nn => Sys2Proof.Machine.execLdaZp nn s
  | .ldxZp nn => Sys2Proof.Machine.execLdxZp nn s
  | .laxZp nn => Sys2Proof.Machine.execLaxZp nn s
  | .tay => Sys2Proof.Machine.execTay s
  | .ldaImm nn => Sys2Proof.Machine.execLdaImm nn s
  | .tax => Sys2Proof.Machine.execTax s
  | .laxImm nn => Sys2Proof.Machine.execLaxImm nn s
  | .ldyAbs nnnn => Sys2Proof.Machine.execLdyAbs nnnn s
  | .ldaAbs nnnn => Sys2Proof.Machine.execLdaAbs nnnn s
  | .ldxAbs nnnn => Sys2Proof.Machine.execLdxAbs nnnn s
  | .laxAbs nnnn => Sys2Proof.Machine.execLaxAbs nnnn s
  | .bcs dd => Sys2Proof.Machine.execBcs dd s
  | .ldaIzy nn => Sys2Proof.Machine.execLdaIzy nn s
  | .kilB2 => Sys2Proof.Machine.execKilB2 s
  | .laxIzy nn => Sys2Proof.Machine.execLaxIzy nn s
  | .ldyZpx nn => Sys2Proof.Machine.execLdyZpx nn s
  | .ldaZpx nn => Sys2Proof.Machine.execLdaZpx nn s
  | .ldxZpy nn => Sys2Proof.Machine.execLdxZpy nn s
  | .laxZpy nn => Sys2Proof.Machine.execLaxZpy nn s
  | .clv => Sys2Proof.Machine.execClv s
  | .ldaAby nnnn => Sys2Proof.Machine.execLdaAby nnnn s
  | .tsx => Sys2Proof.Machine.execTsx s
  | .las nnnn => Sys2Proof.Machine.execLas nnnn s
  | .ldyAbx nnnn => Sys2Proof.Machine.execLdyAbx nnnn s
  | .ldaAbx nnnn => Sys2Proof.Machine.execLdaAbx nnnn s
  | .ldxAby nnnn => Sys2Proof.Machine.execLdxAby nnnn s
  | .laxAbx nnnn => Sys2Proof.Machine.execLaxAbx nnnn s
  | .cpyImm nn => Sys2Proof.Machine.execCpyImm nn s
  | .cmpIzx nn => Sys2Proof.Machine.execCmpIzx nn s
  | .nopImmC2 nn => Sys2Proof.Machine.execNopImmC2 nn s
  | .dcpIzx nn => Sys2Proof.Machine.execDcpIzx nn s
  | .cpyZp nn => Sys2Proof.Machine.execCpyZp nn s
  | .cmpZp nn => Sys2Proof.Machine.execCmpZp nn s
  | .decZp nn => Sys2Proof.Machine.execDecZp nn s
  | .dcpZp nn => Sys2Proof.Machine.execDcpZp nn s
  | .iny => Sys2Proof.Machine.execIny s
  | .cmpImm nn => Sys2Proof.Machine.execCmpImm nn s
  | .dex => Sys2Proof.Machine.execDex s
  | .axs nn => Sys2Proof.Machine.execAxs nn s
  | .cpyAbs nnnn => Sys2Proof.Machine.execCpyAbs nnnn s
  | .cmpAbs nnnn => Sys2Proof.Machine.execCmpAbs nnnn s
  | .decAbs nnnn => Sys2Proof.Machine.execDecAbs nnnn s
  | .dcpAbs nnnn => Sys2Proof.Machine.execDcpAbs nnnn s
  | .bne dd => Sys2Proof.Machine.execBne dd s
  | .cmpIzy nn => Sys2Proof.Machine.execCmpIzy nn s
  | .kilD2 => Sys2Proof.Machine.execKilD2 s
  | .dcpIzy nn => Sys2Proof.Machine.execDcpIzy nn s
  | .nopZpxD4 nn => Sys2Proof.Machine.execNopZpxD4 nn s
  | .cmpZpx nn => Sys2Proof.Machine.execCmpZpx nn s
  | .decZpx nn => Sys2Proof.Machine.execDecZpx nn s
  | .dcpZpx nn => Sys2Proof.Machine.execDcpZpx nn s
  | .cld => Sys2Proof.Machine.execCld s
  | .cmpAby nnnn => Sys2Proof.Machine.execCmpAby nnnn s
  | .nopDA => Sys2Proof.Machine.execNopDA s
  | .dcpAby nnnn => Sys2Proof.Machine.execDcpAby nnnn s
  | .nopAbxDC nnnn => Sys2Proof.Machine.execNopAbxDC nnnn s
  | .cmpAbx nnnn => Sys2Proof.Machine.execCmpAbx nnnn s
  | .decAbx nnnn => Sys2Proof.Machine.execDecAbx nnnn s
  | .dcpAbx nnnn => Sys2Proof.Machine.execDcpAbx nnnn s
  | .cpxImm nn => Sys2Proof.Machine.execCpxImm nn s
  | .sbcIzx nn => Sys2Proof.Machine.execSbcIzx nn s
  | .nopImmE2 nn => Sys2Proof.Machine.execNopImmE2 nn s
  | .iscIzx nn => Sys2Proof.Machine.execIscIzx nn s
  | .cpxZp nn => Sys2Proof.Machine.execCpxZp nn s
  | .sbcZp nn => Sys2Proof.Machine.execSbcZp nn s
  | .incZp nn => Sys2Proof.Machine.execIncZp nn s
  | .iscZp nn => Sys2Proof.Machine.execIscZp nn s
  | .inx => Sys2Proof.Machine.execInx s
  | .sbcImm nn => Sys2Proof.Machine.execSbcImm nn s
  | .nop => Sys2Proof.Machine.execNop s
  | .sbcImmEB nn => Sys2Proof.Machine.execSbcImmEB nn s
  | .cpxAbs nnnn => Sys2Proof.Machine.execCpxAbs nnnn s
  | .sbcAbs nnnn => Sys2Proof.Machine.execSbcAbs nnnn s
  | .incAbs nnnn => Sys2Proof.Machine.execIncAbs nnnn s
  | .iscAbs nnnn => Sys2Proof.Machine.execIscAbs nnnn s
  | .beq dd => Sys2Proof.Machine.execBeq dd s
  | .sbcIzy nn => Sys2Proof.Machine.execSbcIzy nn s
  | .kilF2 => Sys2Proof.Machine.execKilF2 s
  | .iscIzy nn => Sys2Proof.Machine.execIscIzy nn s
  | .nopZpxF4 nn => Sys2Proof.Machine.execNopZpxF4 nn s
  | .sbcZpx nn => Sys2Proof.Machine.execSbcZpx nn s
  | .incZpx nn => Sys2Proof.Machine.execIncZpx nn s
  | .iscZpx nn => Sys2Proof.Machine.execIscZpx nn s
  | .sed => Sys2Proof.Machine.execSed s
  | .sbcAby nnnn => Sys2Proof.Machine.execSbcAby nnnn s
  | .nopFA => Sys2Proof.Machine.execNopFA s
  | .iscAby nnnn => Sys2Proof.Machine.execIscAby nnnn s
  | .nopAbxFC nnnn => Sys2Proof.Machine.execNopAbxFC nnnn s
  | .sbcAbx nnnn => Sys2Proof.Machine.execSbcAbx nnnn s
  | .incAbx nnnn => Sys2Proof.Machine.execIncAbx nnnn s
  | .iscAbx nnnn => Sys2Proof.Machine.execIscAbx nnnn s

end Sys2Proof.Machine
end

