-- ==== Sys2Proof/Decode.lean ====
section
/-! DEFINITION. The decoder, total on any bytes, and the encoder, both written from the opcode matrix of
30_encoding.md R108 and the layouts of R91 and R92. No opcode byte is refused (R110); what is refused, by name,
is a list of bytes that ends before the instruction does. -/

namespace Sys2Proof

/-- Why a list of bytes holds no instruction. -/
inductive DecodeError where
  /-- The list is empty: there is no opcode byte. -/
  | noOpcode
  /-- The list ends before the operand of this opcode byte does. -/
  | missingOperand (opcode : Byte)
  deriving DecidableEq, Repr

/-- Row 0x of the matrix of 30_encoding.md R108: opcode bytes 00 to 0F. `b` is the byte after the opcode,
`w` the two bytes after it as a word. -/
def decodeRow0 (lo : Nat) (b : Byte) (w : Word) : Instr :=
  match lo with
  | 0x0 => .brk
  | 0x1 => .oraIzx b
  | 0x2 => .kil02
  | 0x3 => .sloIzx b
  | 0x4 => .nopZp04 b
  | 0x5 => .oraZp b
  | 0x6 => .aslZp b
  | 0x7 => .sloZp b
  | 0x8 => .php
  | 0x9 => .oraImm b
  | 0xA => .aslAcc
  | 0xB => .anc0B b
  | 0xC => .nopAbs0C w
  | 0xD => .oraAbs w
  | 0xE => .aslAbs w
  | _ => .sloAbs w

/-- Row 1x of the matrix of 30_encoding.md R108: opcode bytes 10 to 1F. `b` is the byte after the opcode,
`w` the two bytes after it as a word. -/
def decodeRow1 (lo : Nat) (b : Byte) (w : Word) : Instr :=
  match lo with
  | 0x0 => .bpl b
  | 0x1 => .oraIzy b
  | 0x2 => .kil12
  | 0x3 => .sloIzy b
  | 0x4 => .nopZpx14 b
  | 0x5 => .oraZpx b
  | 0x6 => .aslZpx b
  | 0x7 => .sloZpx b
  | 0x8 => .clc
  | 0x9 => .oraAby w
  | 0xA => .nop1A
  | 0xB => .sloAby w
  | 0xC => .nopAbx1C w
  | 0xD => .oraAbx w
  | 0xE => .aslAbx w
  | _ => .sloAbx w

/-- Row 2x of the matrix of 30_encoding.md R108: opcode bytes 20 to 2F. `b` is the byte after the opcode,
`w` the two bytes after it as a word. -/
def decodeRow2 (lo : Nat) (b : Byte) (w : Word) : Instr :=
  match lo with
  | 0x0 => .jsr w
  | 0x1 => .andIzx b
  | 0x2 => .kil22
  | 0x3 => .rlaIzx b
  | 0x4 => .bitZp b
  | 0x5 => .andZp b
  | 0x6 => .rolZp b
  | 0x7 => .rlaZp b
  | 0x8 => .plp
  | 0x9 => .andImm b
  | 0xA => .rolAcc
  | 0xB => .anc2B b
  | 0xC => .bitAbs w
  | 0xD => .andAbs w
  | 0xE => .rolAbs w
  | _ => .rlaAbs w

/-- Row 3x of the matrix of 30_encoding.md R108: opcode bytes 30 to 3F. `b` is the byte after the opcode,
`w` the two bytes after it as a word. -/
def decodeRow3 (lo : Nat) (b : Byte) (w : Word) : Instr :=
  match lo with
  | 0x0 => .bmi b
  | 0x1 => .andIzy b
  | 0x2 => .kil32
  | 0x3 => .rlaIzy b
  | 0x4 => .nopZpx34 b
  | 0x5 => .andZpx b
  | 0x6 => .rolZpx b
  | 0x7 => .rlaZpx b
  | 0x8 => .sec
  | 0x9 => .andAby w
  | 0xA => .nop3A
  | 0xB => .rlaAby w
  | 0xC => .nopAbx3C w
  | 0xD => .andAbx w
  | 0xE => .rolAbx w
  | _ => .rlaAbx w

/-- Row 4x of the matrix of 30_encoding.md R108: opcode bytes 40 to 4F. `b` is the byte after the opcode,
`w` the two bytes after it as a word. -/
def decodeRow4 (lo : Nat) (b : Byte) (w : Word) : Instr :=
  match lo with
  | 0x0 => .rti
  | 0x1 => .eorIzx b
  | 0x2 => .kil42
  | 0x3 => .sreIzx b
  | 0x4 => .nopZp44 b
  | 0x5 => .eorZp b
  | 0x6 => .lsrZp b
  | 0x7 => .sreZp b
  | 0x8 => .pha
  | 0x9 => .eorImm b
  | 0xA => .lsrAcc
  | 0xB => .alr b
  | 0xC => .jmpAbs w
  | 0xD => .eorAbs w
  | 0xE => .lsrAbs w
  | _ => .sreAbs w

/-- Row 5x of the matrix of 30_encoding.md R108: opcode bytes 50 to 5F. `b` is the byte after the opcode,
`w` the two bytes after it as a word. -/
def decodeRow5 (lo : Nat) (b : Byte) (w : Word) : Instr :=
  match lo with
  | 0x0 => .bvc b
  | 0x1 => .eorIzy b
  | 0x2 => .kil52
  | 0x3 => .sreIzy b
  | 0x4 => .nopZpx54 b
  | 0x5 => .eorZpx b
  | 0x6 => .lsrZpx b
  | 0x7 => .sreZpx b
  | 0x8 => .cli
  | 0x9 => .eorAby w
  | 0xA => .nop5A
  | 0xB => .sreAby w
  | 0xC => .nopAbx5C w
  | 0xD => .eorAbx w
  | 0xE => .lsrAbx w
  | _ => .sreAbx w

/-- Row 6x of the matrix of 30_encoding.md R108: opcode bytes 60 to 6F. `b` is the byte after the opcode,
`w` the two bytes after it as a word. -/
def decodeRow6 (lo : Nat) (b : Byte) (w : Word) : Instr :=
  match lo with
  | 0x0 => .rts
  | 0x1 => .adcIzx b
  | 0x2 => .kil62
  | 0x3 => .rraIzx b
  | 0x4 => .nopZp64 b
  | 0x5 => .adcZp b
  | 0x6 => .rorZp b
  | 0x7 => .rraZp b
  | 0x8 => .pla
  | 0x9 => .adcImm b
  | 0xA => .rorAcc
  | 0xB => .arr b
  | 0xC => .jmpInd w
  | 0xD => .adcAbs w
  | 0xE => .rorAbs w
  | _ => .rraAbs w

/-- Row 7x of the matrix of 30_encoding.md R108: opcode bytes 70 to 7F. `b` is the byte after the opcode,
`w` the two bytes after it as a word. -/
def decodeRow7 (lo : Nat) (b : Byte) (w : Word) : Instr :=
  match lo with
  | 0x0 => .bvs b
  | 0x1 => .adcIzy b
  | 0x2 => .kil72
  | 0x3 => .rraIzy b
  | 0x4 => .nopZpx74 b
  | 0x5 => .adcZpx b
  | 0x6 => .rorZpx b
  | 0x7 => .rraZpx b
  | 0x8 => .sei
  | 0x9 => .adcAby w
  | 0xA => .nop7A
  | 0xB => .rraAby w
  | 0xC => .nopAbx7C w
  | 0xD => .adcAbx w
  | 0xE => .rorAbx w
  | _ => .rraAbx w

/-- Row 8x of the matrix of 30_encoding.md R108: opcode bytes 80 to 8F. `b` is the byte after the opcode,
`w` the two bytes after it as a word. -/
def decodeRow8 (lo : Nat) (b : Byte) (w : Word) : Instr :=
  match lo with
  | 0x0 => .nopImm80 b
  | 0x1 => .staIzx b
  | 0x2 => .nopImm82 b
  | 0x3 => .saxIzx b
  | 0x4 => .styZp b
  | 0x5 => .staZp b
  | 0x6 => .stxZp b
  | 0x7 => .saxZp b
  | 0x8 => .dey
  | 0x9 => .nopImm89 b
  | 0xA => .txa
  | 0xB => .xaa b
  | 0xC => .styAbs w
  | 0xD => .staAbs w
  | 0xE => .stxAbs w
  | _ => .saxAbs w

/-- Row 9x of the matrix of 30_encoding.md R108: opcode bytes 90 to 9F. `b` is the byte after the opcode,
`w` the two bytes after it as a word. -/
def decodeRow9 (lo : Nat) (b : Byte) (w : Word) : Instr :=
  match lo with
  | 0x0 => .bcc b
  | 0x1 => .staIzy b
  | 0x2 => .kil92
  | 0x3 => .ahxIzy b
  | 0x4 => .styZpx b
  | 0x5 => .staZpx b
  | 0x6 => .stxZpy b
  | 0x7 => .saxZpy b
  | 0x8 => .tya
  | 0x9 => .staAby w
  | 0xA => .txs
  | 0xB => .tas w
  | 0xC => .shy w
  | 0xD => .staAbx w
  | 0xE => .shx w
  | _ => .ahxAby w

/-- Row Ax of the matrix of 30_encoding.md R108: opcode bytes A0 to AF. `b` is the byte after the opcode,
`w` the two bytes after it as a word. -/
def decodeRowA (lo : Nat) (b : Byte) (w : Word) : Instr :=
  match lo with
  | 0x0 => .ldyImm b
  | 0x1 => .ldaIzx b
  | 0x2 => .ldxImm b
  | 0x3 => .laxIzx b
  | 0x4 => .ldyZp b
  | 0x5 => .ldaZp b
  | 0x6 => .ldxZp b
  | 0x7 => .laxZp b
  | 0x8 => .tay
  | 0x9 => .ldaImm b
  | 0xA => .tax
  | 0xB => .laxImm b
  | 0xC => .ldyAbs w
  | 0xD => .ldaAbs w
  | 0xE => .ldxAbs w
  | _ => .laxAbs w

/-- Row Bx of the matrix of 30_encoding.md R108: opcode bytes B0 to BF. `b` is the byte after the opcode,
`w` the two bytes after it as a word. -/
def decodeRowB (lo : Nat) (b : Byte) (w : Word) : Instr :=
  match lo with
  | 0x0 => .bcs b
  | 0x1 => .ldaIzy b
  | 0x2 => .kilB2
  | 0x3 => .laxIzy b
  | 0x4 => .ldyZpx b
  | 0x5 => .ldaZpx b
  | 0x6 => .ldxZpy b
  | 0x7 => .laxZpy b
  | 0x8 => .clv
  | 0x9 => .ldaAby w
  | 0xA => .tsx
  | 0xB => .las w
  | 0xC => .ldyAbx w
  | 0xD => .ldaAbx w
  | 0xE => .ldxAby w
  | _ => .laxAbx w

/-- Row Cx of the matrix of 30_encoding.md R108: opcode bytes C0 to CF. `b` is the byte after the opcode,
`w` the two bytes after it as a word. -/
def decodeRowC (lo : Nat) (b : Byte) (w : Word) : Instr :=
  match lo with
  | 0x0 => .cpyImm b
  | 0x1 => .cmpIzx b
  | 0x2 => .nopImmC2 b
  | 0x3 => .dcpIzx b
  | 0x4 => .cpyZp b
  | 0x5 => .cmpZp b
  | 0x6 => .decZp b
  | 0x7 => .dcpZp b
  | 0x8 => .iny
  | 0x9 => .cmpImm b
  | 0xA => .dex
  | 0xB => .axs b
  | 0xC => .cpyAbs w
  | 0xD => .cmpAbs w
  | 0xE => .decAbs w
  | _ => .dcpAbs w

/-- Row Dx of the matrix of 30_encoding.md R108: opcode bytes D0 to DF. `b` is the byte after the opcode,
`w` the two bytes after it as a word. -/
def decodeRowD (lo : Nat) (b : Byte) (w : Word) : Instr :=
  match lo with
  | 0x0 => .bne b
  | 0x1 => .cmpIzy b
  | 0x2 => .kilD2
  | 0x3 => .dcpIzy b
  | 0x4 => .nopZpxD4 b
  | 0x5 => .cmpZpx b
  | 0x6 => .decZpx b
  | 0x7 => .dcpZpx b
  | 0x8 => .cld
  | 0x9 => .cmpAby w
  | 0xA => .nopDA
  | 0xB => .dcpAby w
  | 0xC => .nopAbxDC w
  | 0xD => .cmpAbx w
  | 0xE => .decAbx w
  | _ => .dcpAbx w

/-- Row Ex of the matrix of 30_encoding.md R108: opcode bytes E0 to EF. `b` is the byte after the opcode,
`w` the two bytes after it as a word. -/
def decodeRowE (lo : Nat) (b : Byte) (w : Word) : Instr :=
  match lo with
  | 0x0 => .cpxImm b
  | 0x1 => .sbcIzx b
  | 0x2 => .nopImmE2 b
  | 0x3 => .iscIzx b
  | 0x4 => .cpxZp b
  | 0x5 => .sbcZp b
  | 0x6 => .incZp b
  | 0x7 => .iscZp b
  | 0x8 => .inx
  | 0x9 => .sbcImm b
  | 0xA => .nop
  | 0xB => .sbcImmEB b
  | 0xC => .cpxAbs w
  | 0xD => .sbcAbs w
  | 0xE => .incAbs w
  | _ => .iscAbs w

/-- Row Fx of the matrix of 30_encoding.md R108: opcode bytes F0 to FF. `b` is the byte after the opcode,
`w` the two bytes after it as a word. -/
def decodeRowF (lo : Nat) (b : Byte) (w : Word) : Instr :=
  match lo with
  | 0x0 => .beq b
  | 0x1 => .sbcIzy b
  | 0x2 => .kilF2
  | 0x3 => .iscIzy b
  | 0x4 => .nopZpxF4 b
  | 0x5 => .sbcZpx b
  | 0x6 => .incZpx b
  | 0x7 => .iscZpx b
  | 0x8 => .sed
  | 0x9 => .sbcAby w
  | 0xA => .nopFA
  | 0xB => .iscAby w
  | 0xC => .nopAbxFC w
  | 0xD => .sbcAbx w
  | 0xE => .incAbx w
  | _ => .iscAbx w

/-- The instruction whose opcode byte is `op` and whose next two bytes are `b1` and `b2`; operand bytes beyond
the instruction's length are not looked at (30_encoding.md R90, R92, R93). -/
def decodeBytes (op b1 b2 : Byte) : Instr :=
  let lo := op.toNat % 16
  let w := wordOf b1 b2
  match op.toNat / 16 with
  | 0x0 => decodeRow0 lo b1 w
  | 0x1 => decodeRow1 lo b1 w
  | 0x2 => decodeRow2 lo b1 w
  | 0x3 => decodeRow3 lo b1 w
  | 0x4 => decodeRow4 lo b1 w
  | 0x5 => decodeRow5 lo b1 w
  | 0x6 => decodeRow6 lo b1 w
  | 0x7 => decodeRow7 lo b1 w
  | 0x8 => decodeRow8 lo b1 w
  | 0x9 => decodeRow9 lo b1 w
  | 0xA => decodeRowA lo b1 w
  | 0xB => decodeRowB lo b1 w
  | 0xC => decodeRowC lo b1 w
  | 0xD => decodeRowD lo b1 w
  | 0xE => decodeRowE lo b1 w
  | _ => decodeRowF lo b1 w

/-- The bytes of an instruction, first byte first: the opcode byte, then `nn` or `dd`, or the low and the high
byte of `nnnn` (30_encoding.md R91, R92). -/
def encode : Instr → List Byte
  | .brk => [0x00]
  | .oraIzx nn => [0x01, nn]
  | .kil02 => [0x02]
  | .sloIzx nn => [0x03, nn]
  | .nopZp04 nn => [0x04, nn]
  | .oraZp nn => [0x05, nn]
  | .aslZp nn => [0x06, nn]
  | .sloZp nn => [0x07, nn]
  | .php => [0x08]
  | .oraImm nn => [0x09, nn]
  | .aslAcc => [0x0A]
  | .anc0B nn => [0x0B, nn]
  | .nopAbs0C nnnn => [0x0C, loByte nnnn, hiByte nnnn]
  | .oraAbs nnnn => [0x0D, loByte nnnn, hiByte nnnn]
  | .aslAbs nnnn => [0x0E, loByte nnnn, hiByte nnnn]
  | .sloAbs nnnn => [0x0F, loByte nnnn, hiByte nnnn]
  | .bpl dd => [0x10, dd]
  | .oraIzy nn => [0x11, nn]
  | .kil12 => [0x12]
  | .sloIzy nn => [0x13, nn]
  | .nopZpx14 nn => [0x14, nn]
  | .oraZpx nn => [0x15, nn]
  | .aslZpx nn => [0x16, nn]
  | .sloZpx nn => [0x17, nn]
  | .clc => [0x18]
  | .oraAby nnnn => [0x19, loByte nnnn, hiByte nnnn]
  | .nop1A => [0x1A]
  | .sloAby nnnn => [0x1B, loByte nnnn, hiByte nnnn]
  | .nopAbx1C nnnn => [0x1C, loByte nnnn, hiByte nnnn]
  | .oraAbx nnnn => [0x1D, loByte nnnn, hiByte nnnn]
  | .aslAbx nnnn => [0x1E, loByte nnnn, hiByte nnnn]
  | .sloAbx nnnn => [0x1F, loByte nnnn, hiByte nnnn]
  | .jsr nnnn => [0x20, loByte nnnn, hiByte nnnn]
  | .andIzx nn => [0x21, nn]
  | .kil22 => [0x22]
  | .rlaIzx nn => [0x23, nn]
  | .bitZp nn => [0x24, nn]
  | .andZp nn => [0x25, nn]
  | .rolZp nn => [0x26, nn]
  | .rlaZp nn => [0x27, nn]
  | .plp => [0x28]
  | .andImm nn => [0x29, nn]
  | .rolAcc => [0x2A]
  | .anc2B nn => [0x2B, nn]
  | .bitAbs nnnn => [0x2C, loByte nnnn, hiByte nnnn]
  | .andAbs nnnn => [0x2D, loByte nnnn, hiByte nnnn]
  | .rolAbs nnnn => [0x2E, loByte nnnn, hiByte nnnn]
  | .rlaAbs nnnn => [0x2F, loByte nnnn, hiByte nnnn]
  | .bmi dd => [0x30, dd]
  | .andIzy nn => [0x31, nn]
  | .kil32 => [0x32]
  | .rlaIzy nn => [0x33, nn]
  | .nopZpx34 nn => [0x34, nn]
  | .andZpx nn => [0x35, nn]
  | .rolZpx nn => [0x36, nn]
  | .rlaZpx nn => [0x37, nn]
  | .sec => [0x38]
  | .andAby nnnn => [0x39, loByte nnnn, hiByte nnnn]
  | .nop3A => [0x3A]
  | .rlaAby nnnn => [0x3B, loByte nnnn, hiByte nnnn]
  | .nopAbx3C nnnn => [0x3C, loByte nnnn, hiByte nnnn]
  | .andAbx nnnn => [0x3D, loByte nnnn, hiByte nnnn]
  | .rolAbx nnnn => [0x3E, loByte nnnn, hiByte nnnn]
  | .rlaAbx nnnn => [0x3F, loByte nnnn, hiByte nnnn]
  | .rti => [0x40]
  | .eorIzx nn => [0x41, nn]
  | .kil42 => [0x42]
  | .sreIzx nn => [0x43, nn]
  | .nopZp44 nn => [0x44, nn]
  | .eorZp nn => [0x45, nn]
  | .lsrZp nn => [0x46, nn]
  | .sreZp nn => [0x47, nn]
  | .pha => [0x48]
  | .eorImm nn => [0x49, nn]
  | .lsrAcc => [0x4A]
  | .alr nn => [0x4B, nn]
  | .jmpAbs nnnn => [0x4C, loByte nnnn, hiByte nnnn]
  | .eorAbs nnnn => [0x4D, loByte nnnn, hiByte nnnn]
  | .lsrAbs nnnn => [0x4E, loByte nnnn, hiByte nnnn]
  | .sreAbs nnnn => [0x4F, loByte nnnn, hiByte nnnn]
  | .bvc dd => [0x50, dd]
  | .eorIzy nn => [0x51, nn]
  | .kil52 => [0x52]
  | .sreIzy nn => [0x53, nn]
  | .nopZpx54 nn => [0x54, nn]
  | .eorZpx nn => [0x55, nn]
  | .lsrZpx nn => [0x56, nn]
  | .sreZpx nn => [0x57, nn]
  | .cli => [0x58]
  | .eorAby nnnn => [0x59, loByte nnnn, hiByte nnnn]
  | .nop5A => [0x5A]
  | .sreAby nnnn => [0x5B, loByte nnnn, hiByte nnnn]
  | .nopAbx5C nnnn => [0x5C, loByte nnnn, hiByte nnnn]
  | .eorAbx nnnn => [0x5D, loByte nnnn, hiByte nnnn]
  | .lsrAbx nnnn => [0x5E, loByte nnnn, hiByte nnnn]
  | .sreAbx nnnn => [0x5F, loByte nnnn, hiByte nnnn]
  | .rts => [0x60]
  | .adcIzx nn => [0x61, nn]
  | .kil62 => [0x62]
  | .rraIzx nn => [0x63, nn]
  | .nopZp64 nn => [0x64, nn]
  | .adcZp nn => [0x65, nn]
  | .rorZp nn => [0x66, nn]
  | .rraZp nn => [0x67, nn]
  | .pla => [0x68]
  | .adcImm nn => [0x69, nn]
  | .rorAcc => [0x6A]
  | .arr nn => [0x6B, nn]
  | .jmpInd nnnn => [0x6C, loByte nnnn, hiByte nnnn]
  | .adcAbs nnnn => [0x6D, loByte nnnn, hiByte nnnn]
  | .rorAbs nnnn => [0x6E, loByte nnnn, hiByte nnnn]
  | .rraAbs nnnn => [0x6F, loByte nnnn, hiByte nnnn]
  | .bvs dd => [0x70, dd]
  | .adcIzy nn => [0x71, nn]
  | .kil72 => [0x72]
  | .rraIzy nn => [0x73, nn]
  | .nopZpx74 nn => [0x74, nn]
  | .adcZpx nn => [0x75, nn]
  | .rorZpx nn => [0x76, nn]
  | .rraZpx nn => [0x77, nn]
  | .sei => [0x78]
  | .adcAby nnnn => [0x79, loByte nnnn, hiByte nnnn]
  | .nop7A => [0x7A]
  | .rraAby nnnn => [0x7B, loByte nnnn, hiByte nnnn]
  | .nopAbx7C nnnn => [0x7C, loByte nnnn, hiByte nnnn]
  | .adcAbx nnnn => [0x7D, loByte nnnn, hiByte nnnn]
  | .rorAbx nnnn => [0x7E, loByte nnnn, hiByte nnnn]
  | .rraAbx nnnn => [0x7F, loByte nnnn, hiByte nnnn]
  | .nopImm80 nn => [0x80, nn]
  | .staIzx nn => [0x81, nn]
  | .nopImm82 nn => [0x82, nn]
  | .saxIzx nn => [0x83, nn]
  | .styZp nn => [0x84, nn]
  | .staZp nn => [0x85, nn]
  | .stxZp nn => [0x86, nn]
  | .saxZp nn => [0x87, nn]
  | .dey => [0x88]
  | .nopImm89 nn => [0x89, nn]
  | .txa => [0x8A]
  | .xaa nn => [0x8B, nn]
  | .styAbs nnnn => [0x8C, loByte nnnn, hiByte nnnn]
  | .staAbs nnnn => [0x8D, loByte nnnn, hiByte nnnn]
  | .stxAbs nnnn => [0x8E, loByte nnnn, hiByte nnnn]
  | .saxAbs nnnn => [0x8F, loByte nnnn, hiByte nnnn]
  | .bcc dd => [0x90, dd]
  | .staIzy nn => [0x91, nn]
  | .kil92 => [0x92]
  | .ahxIzy nn => [0x93, nn]
  | .styZpx nn => [0x94, nn]
  | .staZpx nn => [0x95, nn]
  | .stxZpy nn => [0x96, nn]
  | .saxZpy nn => [0x97, nn]
  | .tya => [0x98]
  | .staAby nnnn => [0x99, loByte nnnn, hiByte nnnn]
  | .txs => [0x9A]
  | .tas nnnn => [0x9B, loByte nnnn, hiByte nnnn]
  | .shy nnnn => [0x9C, loByte nnnn, hiByte nnnn]
  | .staAbx nnnn => [0x9D, loByte nnnn, hiByte nnnn]
  | .shx nnnn => [0x9E, loByte nnnn, hiByte nnnn]
  | .ahxAby nnnn => [0x9F, loByte nnnn, hiByte nnnn]
  | .ldyImm nn => [0xA0, nn]
  | .ldaIzx nn => [0xA1, nn]
  | .ldxImm nn => [0xA2, nn]
  | .laxIzx nn => [0xA3, nn]
  | .ldyZp nn => [0xA4, nn]
  | .ldaZp nn => [0xA5, nn]
  | .ldxZp nn => [0xA6, nn]
  | .laxZp nn => [0xA7, nn]
  | .tay => [0xA8]
  | .ldaImm nn => [0xA9, nn]
  | .tax => [0xAA]
  | .laxImm nn => [0xAB, nn]
  | .ldyAbs nnnn => [0xAC, loByte nnnn, hiByte nnnn]
  | .ldaAbs nnnn => [0xAD, loByte nnnn, hiByte nnnn]
  | .ldxAbs nnnn => [0xAE, loByte nnnn, hiByte nnnn]
  | .laxAbs nnnn => [0xAF, loByte nnnn, hiByte nnnn]
  | .bcs dd => [0xB0, dd]
  | .ldaIzy nn => [0xB1, nn]
  | .kilB2 => [0xB2]
  | .laxIzy nn => [0xB3, nn]
  | .ldyZpx nn => [0xB4, nn]
  | .ldaZpx nn => [0xB5, nn]
  | .ldxZpy nn => [0xB6, nn]
  | .laxZpy nn => [0xB7, nn]
  | .clv => [0xB8]
  | .ldaAby nnnn => [0xB9, loByte nnnn, hiByte nnnn]
  | .tsx => [0xBA]
  | .las nnnn => [0xBB, loByte nnnn, hiByte nnnn]
  | .ldyAbx nnnn => [0xBC, loByte nnnn, hiByte nnnn]
  | .ldaAbx nnnn => [0xBD, loByte nnnn, hiByte nnnn]
  | .ldxAby nnnn => [0xBE, loByte nnnn, hiByte nnnn]
  | .laxAbx nnnn => [0xBF, loByte nnnn, hiByte nnnn]
  | .cpyImm nn => [0xC0, nn]
  | .cmpIzx nn => [0xC1, nn]
  | .nopImmC2 nn => [0xC2, nn]
  | .dcpIzx nn => [0xC3, nn]
  | .cpyZp nn => [0xC4, nn]
  | .cmpZp nn => [0xC5, nn]
  | .decZp nn => [0xC6, nn]
  | .dcpZp nn => [0xC7, nn]
  | .iny => [0xC8]
  | .cmpImm nn => [0xC9, nn]
  | .dex => [0xCA]
  | .axs nn => [0xCB, nn]
  | .cpyAbs nnnn => [0xCC, loByte nnnn, hiByte nnnn]
  | .cmpAbs nnnn => [0xCD, loByte nnnn, hiByte nnnn]
  | .decAbs nnnn => [0xCE, loByte nnnn, hiByte nnnn]
  | .dcpAbs nnnn => [0xCF, loByte nnnn, hiByte nnnn]
  | .bne dd => [0xD0, dd]
  | .cmpIzy nn => [0xD1, nn]
  | .kilD2 => [0xD2]
  | .dcpIzy nn => [0xD3, nn]
  | .nopZpxD4 nn => [0xD4, nn]
  | .cmpZpx nn => [0xD5, nn]
  | .decZpx nn => [0xD6, nn]
  | .dcpZpx nn => [0xD7, nn]
  | .cld => [0xD8]
  | .cmpAby nnnn => [0xD9, loByte nnnn, hiByte nnnn]
  | .nopDA => [0xDA]
  | .dcpAby nnnn => [0xDB, loByte nnnn, hiByte nnnn]
  | .nopAbxDC nnnn => [0xDC, loByte nnnn, hiByte nnnn]
  | .cmpAbx nnnn => [0xDD, loByte nnnn, hiByte nnnn]
  | .decAbx nnnn => [0xDE, loByte nnnn, hiByte nnnn]
  | .dcpAbx nnnn => [0xDF, loByte nnnn, hiByte nnnn]
  | .cpxImm nn => [0xE0, nn]
  | .sbcIzx nn => [0xE1, nn]
  | .nopImmE2 nn => [0xE2, nn]
  | .iscIzx nn => [0xE3, nn]
  | .cpxZp nn => [0xE4, nn]
  | .sbcZp nn => [0xE5, nn]
  | .incZp nn => [0xE6, nn]
  | .iscZp nn => [0xE7, nn]
  | .inx => [0xE8]
  | .sbcImm nn => [0xE9, nn]
  | .nop => [0xEA]
  | .sbcImmEB nn => [0xEB, nn]
  | .cpxAbs nnnn => [0xEC, loByte nnnn, hiByte nnnn]
  | .sbcAbs nnnn => [0xED, loByte nnnn, hiByte nnnn]
  | .incAbs nnnn => [0xEE, loByte nnnn, hiByte nnnn]
  | .iscAbs nnnn => [0xEF, loByte nnnn, hiByte nnnn]
  | .beq dd => [0xF0, dd]
  | .sbcIzy nn => [0xF1, nn]
  | .kilF2 => [0xF2]
  | .iscIzy nn => [0xF3, nn]
  | .nopZpxF4 nn => [0xF4, nn]
  | .sbcZpx nn => [0xF5, nn]
  | .incZpx nn => [0xF6, nn]
  | .iscZpx nn => [0xF7, nn]
  | .sed => [0xF8]
  | .sbcAby nnnn => [0xF9, loByte nnnn, hiByte nnnn]
  | .nopFA => [0xFA]
  | .iscAby nnnn => [0xFB, loByte nnnn, hiByte nnnn]
  | .nopAbxFC nnnn => [0xFC, loByte nnnn, hiByte nnnn]
  | .sbcAbx nnnn => [0xFD, loByte nnnn, hiByte nnnn]
  | .incAbx nnnn => [0xFE, loByte nnnn, hiByte nnnn]
  | .iscAbx nnnn => [0xFF, loByte nnnn, hiByte nnnn]

/-- The length `L` of an instruction in bytes, by its operand form (30_encoding.md R91). -/
def Instr.length : Instr → Nat
  | .brk | .kil02 | .php | .aslAcc | .kil12 | .clc | .nop1A | .kil22 | .plp | .rolAcc | .kil32 | .sec
  | .nop3A | .rti | .kil42 | .pha | .lsrAcc | .kil52 | .cli | .nop5A | .rts | .kil62 | .pla | .rorAcc
  | .kil72 | .sei | .nop7A | .dey | .txa | .kil92 | .tya | .txs | .tay | .tax | .kilB2 | .clv | .tsx | .iny
  | .dex | .kilD2 | .cld | .nopDA | .inx | .nop | .kilF2 | .sed | .nopFA => 1
  | .oraIzx _ | .sloIzx _ | .nopZp04 _ | .oraZp _ | .aslZp _ | .sloZp _ | .oraImm _ | .anc0B _ | .bpl _
  | .oraIzy _ | .sloIzy _ | .nopZpx14 _ | .oraZpx _ | .aslZpx _ | .sloZpx _ | .andIzx _ | .rlaIzx _
  | .bitZp _ | .andZp _ | .rolZp _ | .rlaZp _ | .andImm _ | .anc2B _ | .bmi _ | .andIzy _ | .rlaIzy _
  | .nopZpx34 _ | .andZpx _ | .rolZpx _ | .rlaZpx _ | .eorIzx _ | .sreIzx _ | .nopZp44 _ | .eorZp _
  | .lsrZp _ | .sreZp _ | .eorImm _ | .alr _ | .bvc _ | .eorIzy _ | .sreIzy _ | .nopZpx54 _ | .eorZpx _
  | .lsrZpx _ | .sreZpx _ | .adcIzx _ | .rraIzx _ | .nopZp64 _ | .adcZp _ | .rorZp _ | .rraZp _ | .adcImm _
  | .arr _ | .bvs _ | .adcIzy _ | .rraIzy _ | .nopZpx74 _ | .adcZpx _ | .rorZpx _ | .rraZpx _ | .nopImm80 _
  | .staIzx _ | .nopImm82 _ | .saxIzx _ | .styZp _ | .staZp _ | .stxZp _ | .saxZp _ | .nopImm89 _ | .xaa _
  | .bcc _ | .staIzy _ | .ahxIzy _ | .styZpx _ | .staZpx _ | .stxZpy _ | .saxZpy _ | .ldyImm _ | .ldaIzx _
  | .ldxImm _ | .laxIzx _ | .ldyZp _ | .ldaZp _ | .ldxZp _ | .laxZp _ | .ldaImm _ | .laxImm _ | .bcs _
  | .ldaIzy _ | .laxIzy _ | .ldyZpx _ | .ldaZpx _ | .ldxZpy _ | .laxZpy _ | .cpyImm _ | .cmpIzx _
  | .nopImmC2 _ | .dcpIzx _ | .cpyZp _ | .cmpZp _ | .decZp _ | .dcpZp _ | .cmpImm _ | .axs _ | .bne _
  | .cmpIzy _ | .dcpIzy _ | .nopZpxD4 _ | .cmpZpx _ | .decZpx _ | .dcpZpx _ | .cpxImm _ | .sbcIzx _
  | .nopImmE2 _ | .iscIzx _ | .cpxZp _ | .sbcZp _ | .incZp _ | .iscZp _ | .sbcImm _ | .sbcImmEB _ | .beq _
  | .sbcIzy _ | .iscIzy _ | .nopZpxF4 _ | .sbcZpx _ | .incZpx _ | .iscZpx _ => 2
  | .nopAbs0C _ | .oraAbs _ | .aslAbs _ | .sloAbs _ | .oraAby _ | .sloAby _ | .nopAbx1C _ | .oraAbx _
  | .aslAbx _ | .sloAbx _ | .jsr _ | .bitAbs _ | .andAbs _ | .rolAbs _ | .rlaAbs _ | .andAby _ | .rlaAby _
  | .nopAbx3C _ | .andAbx _ | .rolAbx _ | .rlaAbx _ | .jmpAbs _ | .eorAbs _ | .lsrAbs _ | .sreAbs _
  | .eorAby _ | .sreAby _ | .nopAbx5C _ | .eorAbx _ | .lsrAbx _ | .sreAbx _ | .jmpInd _ | .adcAbs _
  | .rorAbs _ | .rraAbs _ | .adcAby _ | .rraAby _ | .nopAbx7C _ | .adcAbx _ | .rorAbx _ | .rraAbx _
  | .styAbs _ | .staAbs _ | .stxAbs _ | .saxAbs _ | .staAby _ | .tas _ | .shy _ | .staAbx _ | .shx _
  | .ahxAby _ | .ldyAbs _ | .ldaAbs _ | .ldxAbs _ | .laxAbs _ | .ldaAby _ | .las _ | .ldyAbx _ | .ldaAbx _
  | .ldxAby _ | .laxAbx _ | .cpyAbs _ | .cmpAbs _ | .decAbs _ | .dcpAbs _ | .cmpAby _ | .dcpAby _
  | .nopAbxDC _ | .cmpAbx _ | .decAbx _ | .dcpAbx _ | .cpxAbs _ | .sbcAbs _ | .incAbs _ | .iscAbs _
  | .sbcAby _ | .iscAby _ | .nopAbxFC _ | .sbcAbx _ | .incAbx _ | .iscAbx _ => 3

/-- Decode the instruction at the front of a list of bytes; the answer holds the instruction and the bytes after
it. Total: every list is decoded or refused by name (30_encoding.md R93, R110). -/
def decode (bytes : List Byte) : Except DecodeError (Instr × List Byte) :=
  match bytes with
  | [] => .error .noOpcode
  | op :: rest =>
    let i := decodeBytes op (rest.getD 0 0) (rest.getD 1 0)
    if i.length ≤ rest.length + 1 then .ok (i, rest.drop (i.length - 1))
    else .error (.missingOperand op)

/-- The byte of the number `w` that holds bits `8 * k` to `8 * k + 7`. -/
def byteOfNat (w k : Nat) : Byte := BitVec.ofNat 8 (w / 256 ^ k)

/-- The three bytes, first byte first, that an instruction whose low `nbits` bits are those of `w` stands in:
bits from `nbits` up are 0. The numbering is that of spec/opcode_table.json: bit 0 is bit 0 of the first byte. -/
def tableBytes (nbits w : Nat) : List Byte :=
  let v := w % 2 ^ nbits
  [byteOfNat v 0, byteOfNat v 1, byteOfNat v 2]

/-- The instruction the decoder reads from an instruction whose bits are `w`. -/
def decodeTableWord (nbits w : Nat) : Option Instr :=
  match decode (tableBytes nbits w) with
  | .ok (i, _) => some i
  | .error _ => none

end Sys2Proof
end

