-- ==== Sys2Proof/Machine/Events.lean ====
section
/-! DEFINITION. What happens at an instruction boundary: the environment's pin changes, the choice of the step
(60_exceptions.md R320), taking NMI and IRQ, and fetching the bytes of an instruction. -/

namespace Sys2Proof.Machine

/-! ## The environment's move -/

/-- One pin change: the line takes the level, and a falling edge of /NMI on a part that has the pin sets the
latch, at once and whatever the CPU is doing (60_exceptions.md R312, 10_state.md R43). -/
def State.drive (s : State) (ch : PinChange) : State :=
  match ch.line with
  | .irq => { s with lines := { s.lines with irq := ch.level } }
  | .reset => { s with lines := { s.lines with reset := ch.level } }
  | .nmi =>
    { s with
      lines := { s.lines with nmi := ch.level }
      nmiPending := s.nmiPending || (s.cfg.nmiPin && s.lines.nmi == .high && ch.level == .low) }

/-- The pin changes before this boundary, in order. -/
def State.driveAll (s : State) (changes : List PinChange) : State := changes.foldl State.drive s

/-- The state at a boundary: the environment has made its next entry of pin changes, the counter of free values has
advanced, the bus record is empty (logs 6, 14, 30). -/
def State.boundary (s : State) : State :=
  { s.driveAll (s.inputs.headD []) with
    inputs := s.inputs.tail
    tick := s.tick + 1
    bus := [] }

/-! ## The choice of the step -/

/-- What the CPU does at a boundary (60_exceptions.md R320). -/
inductive Choice where
  | reset
  /-- Halted by KIL: no step. -/
  | halted
  | nmi
  | irq
  | instruction
  deriving DecidableEq, Repr

/-- `I_eff` (60_exceptions.md R320, R325): I, or under `IRQ_LATENCY = either`, directly after CLI, SEI or PLP, a
free choice of the old and the new I (log 17). -/
def State.effectiveI (s : State) : Bool :=
  match s.cfg.irqLatency, s.lateI with
  | .either, some old => if s.freeBit .irqTest then old else s.p.i
  | .either, none => s.p.i
  | .immediate, _ => s.p.i

/-- /IRQ is LOW on a part that has the pin (10_state.md R43). -/
def State.irqLow (s : State) : Bool := s.cfg.irqPin && s.lines.irq == .low

/-- The choice: RESET, then halted, then NMI, then IRQ, then the instruction at PC (60_exceptions.md R320). -/
def State.choice (s : State) : Choice :=
  if s.lines.reset = .low then .reset
  else if s.halted then .halted
  else if s.nmiPending then .nmi
  else if s.irqLow && !s.effectiveI then .irq
  else .instruction

/-- The step begins: the boundary directly after CLI, SEI or PLP is past (60_exceptions.md R325). -/
def State.begun (s : State) : State := { s with lateI := none }

/-- NMI: the latch is cleared, the return address is that of the next instruction (60_exceptions.md R306). -/
def State.takeNmi (s : State) : State := { s with nmiPending := false }.interrupt nmiVector false s.pc

/-- IRQ (60_exceptions.md R305). -/
def State.takeIrq (s : State) : State := s.interrupt irqVector false s.pc

/-! ## Fetch -/

/-- The instruction at PC: the opcode byte, then as many operand bytes as it has (30_encoding.md R92, R93). -/
def State.fetched (s : State) : Instr :=
  decodeBytes (s.read .opcode s.pc) (s.read .operand (s.pc + 1)) (s.read .operand (s.pc + 2))

/-- The reads of fetching an instruction of `len` bytes, in ascending order (20_memory.md R68). -/
def State.fetchReads (s : State) (len : Nat) : List BusAccess :=
  [s.rdOf .opcode s.pc, s.rdOf .operand (s.pc + 1), s.rdOf .operand (s.pc + 2)].take len

/-- The state in which the fetched instruction is performed: PC at its opcode byte, its bytes read. -/
def State.afterFetch (s : State) : State := s.begun.log (s.fetchReads s.fetched.length)

/-! ## Placing an instruction where the next step fetches it -/

/-- The state with plain memory at an address: as it is where RAM or ROM stands there; else the port is taken
away and the location made RAM. -/
def State.makePlain (s : State) (addr : Word) : State :=
  match kindAt s.cfg addr with
  | .ram | .rom => s
  | .device =>
    { s with cfg := { s.cfg with ioPort := false, memMap := ⟨cellOf s.cfg addr, 1, .ram⟩ :: s.cfg.memMap } }

/-- Put a byte into memory at an address, not by way of the CPU. -/
def State.place (s : State) (addr : Word) (v : Byte) : State :=
  let t := s.makePlain addr
  { t with mem := t.mem.write (cellOf t.cfg addr) v }

/-- The state with nothing that would keep the next step from fetching: lines HIGH, no pin change to come, no
pending NMI, not halted. -/
def State.quiet (s : State) : State :=
  { s with
    lines := { irq := .high, nmi := .high, reset := .high }
    inputs := []
    nmiPending := false
    halted := false }

end Sys2Proof.Machine
end

