-- ==== Sys2Proof/Machine/Step.lean ====
section
/-! DEFINITION. One step of the machine (60_exceptions.md R320), and where an instruction is placed for the next
step to fetch. -/

namespace Sys2Proof.Machine

/-- One step: the environment moves, then the CPU takes RESET, or is halted, or takes NMI or IRQ, or fetches,
decodes and performs the instruction at PC (60_exceptions.md R320). A halted CPU lets a boundary pass while the
environment still has pin changes to make; with none left it is stuck (log 18). -/
def step (s : State) : Out :=
  let b := s.boundary
  match b.choice with
  | .reset => .next b.begun.resetSequence
  | .halted => if s.inputs.isEmpty then .fault .stuck else .next b.begun
  | .nmi => .next b.begun.takeNmi
  | .irq => .next b.begun.takeIrq
  | .instruction => exec b.fetched b.afterFetch

/-- `s` with the instruction whose bits are `w` in memory at PC, PC + 1 and PC + 2, where the next step fetches,
and with nothing that would keep that step from fetching (log 33). -/
def State.withFetchWord (s : State) (nbits w : Nat) : State :=
  let v := w % 2 ^ nbits
  ((s.quiet.place s.pc (byteOfNat v 0)).place (s.pc + 1) (byteOfNat v 1)).place (s.pc + 2) (byteOfNat v 2)

end Sys2Proof.Machine
end

