-- ==== Sys2Proof/Machine/Table.lean ====
section
/-! DEFINITION. The columns of the opcode listings that are not effects: the flag column (00_scope.md R7,
10_state.md R40), the cycle column (70_reset_and_hazards.md R363) and the operand form of every row of
spec/opcode_table.json, with its mnemonic. No meaning reads them; the flag and form columns are what statements hold the meanings
against, and Machine/Timing.lean reads the cycle column. -/

namespace Sys2Proof.Machine

/-- One position of a flag column (00_scope.md R7). -/
inductive FlagCell where
  /-- `-`: the flag is not changed. -/
  | kept
  /-- The flag's letter: written according to the result. -/
  | written
  /-- `0` -/
  | cleared
  /-- `1` -/
  | set
  /-- `x`: loaded from a bit of the operand (BIT). -/
  | loaded
  deriving DecidableEq, Repr

/-- A flag column, in the source's order `n z c i d v` (00_scope.md R7). -/
structure FlagColumn where
  n : FlagCell
  z : FlagCell
  c : FlagCell
  i : FlagCell
  d : FlagCell
  v : FlagCell
  deriving DecidableEq, Repr

/-- `------` -/
def FlagColumn.unchanged : FlagColumn := ⟨.kept, .kept, .kept, .kept, .kept, .kept⟩

/-- `nz----` -/
def FlagColumn.nz : FlagColumn := ⟨.written, .written, .kept, .kept, .kept, .kept⟩

/-- `nzc---` -/
def FlagColumn.nzc : FlagColumn := ⟨.written, .written, .written, .kept, .kept, .kept⟩

/-- `nzc--v` -/
def FlagColumn.nzcv : FlagColumn := ⟨.written, .written, .written, .kept, .kept, .written⟩

/-- `0zc---` -/
def FlagColumn.zeroZc : FlagColumn := ⟨.cleared, .written, .written, .kept, .kept, .kept⟩

/-- `xz---x` -/
def FlagColumn.bitTest : FlagColumn := ⟨.loaded, .written, .kept, .kept, .kept, .loaded⟩

/-- `nzcidv` -/
def FlagColumn.all : FlagColumn := ⟨.written, .written, .written, .written, .written, .written⟩

/-- `--0---` -/
def FlagColumn.clearC : FlagColumn := ⟨.kept, .kept, .cleared, .kept, .kept, .kept⟩

/-- `--1---` -/
def FlagColumn.setC : FlagColumn := ⟨.kept, .kept, .set, .kept, .kept, .kept⟩

/-- `---0--` -/
def FlagColumn.clearI : FlagColumn := ⟨.kept, .kept, .kept, .cleared, .kept, .kept⟩

/-- `---1--` -/
def FlagColumn.setI : FlagColumn := ⟨.kept, .kept, .kept, .set, .kept, .kept⟩

/-- `----0-` -/
def FlagColumn.clearD : FlagColumn := ⟨.kept, .kept, .kept, .kept, .cleared, .kept⟩

/-- `----1-` -/
def FlagColumn.setD : FlagColumn := ⟨.kept, .kept, .kept, .kept, .set, .kept⟩

/-- `-----0` -/
def FlagColumn.clearV : FlagColumn := ⟨.kept, .kept, .kept, .kept, .kept, .cleared⟩

/-- The flag column of each row of spec/opcode_table.json. -/
def flagColumn : Instr → FlagColumn
  | .brk | .sei => .setI
  | .oraIzx _ | .oraZp _ | .oraImm _ | .oraAbs _ | .oraIzy _ | .oraZpx _ | .oraAby _ | .oraAbx _
  | .andIzx _ | .andZp _ | .andImm _ | .andAbs _ | .andIzy _ | .andZpx _ | .andAby _ | .andAbx _
  | .eorIzx _ | .eorZp _ | .eorImm _ | .eorAbs _ | .eorIzy _ | .eorZpx _ | .eorAby _ | .eorAbx _ | .pla
  | .dey | .txa | .xaa _ | .tya | .ldyImm _ | .ldaIzx _ | .ldxImm _ | .laxIzx _ | .ldyZp _ | .ldaZp _
  | .ldxZp _ | .laxZp _ | .tay | .ldaImm _ | .tax | .laxImm _ | .ldyAbs _ | .ldaAbs _ | .ldxAbs _
  | .laxAbs _ | .ldaIzy _ | .laxIzy _ | .ldyZpx _ | .ldaZpx _ | .ldxZpy _ | .laxZpy _ | .ldaAby _ | .tsx
  | .las _ | .ldyAbx _ | .ldaAbx _ | .ldxAby _ | .laxAbx _ | .decZp _ | .iny | .dex | .decAbs _ | .decZpx _
  | .decAbx _ | .incZp _ | .inx | .incAbs _ | .incZpx _ | .incAbx _ => .nz
  | .kil02 | .nopZp04 _ | .php | .nopAbs0C _ | .bpl _ | .kil12 | .nopZpx14 _ | .nop1A | .nopAbx1C _
  | .jsr _ | .kil22 | .bmi _ | .kil32 | .nopZpx34 _ | .nop3A | .nopAbx3C _ | .kil42 | .nopZp44 _ | .pha
  | .jmpAbs _ | .bvc _ | .kil52 | .nopZpx54 _ | .nop5A | .nopAbx5C _ | .rts | .kil62 | .nopZp64 _
  | .jmpInd _ | .bvs _ | .kil72 | .nopZpx74 _ | .nop7A | .nopAbx7C _ | .nopImm80 _ | .staIzx _
  | .nopImm82 _ | .saxIzx _ | .styZp _ | .staZp _ | .stxZp _ | .saxZp _ | .nopImm89 _ | .styAbs _
  | .staAbs _ | .stxAbs _ | .saxAbs _ | .bcc _ | .staIzy _ | .kil92 | .ahxIzy _ | .styZpx _ | .staZpx _
  | .stxZpy _ | .saxZpy _ | .staAby _ | .txs | .tas _ | .shy _ | .staAbx _ | .shx _ | .ahxAby _ | .bcs _
  | .kilB2 | .nopImmC2 _ | .bne _ | .kilD2 | .nopZpxD4 _ | .nopDA | .nopAbxDC _ | .nopImmE2 _ | .nop
  | .beq _ | .kilF2 | .nopZpxF4 _ | .nopFA | .nopAbxFC _ => .unchanged
  | .sloIzx _ | .aslZp _ | .sloZp _ | .aslAcc | .anc0B _ | .aslAbs _ | .sloAbs _ | .sloIzy _ | .aslZpx _
  | .sloZpx _ | .sloAby _ | .aslAbx _ | .sloAbx _ | .rlaIzx _ | .rolZp _ | .rlaZp _ | .rolAcc | .anc2B _
  | .rolAbs _ | .rlaAbs _ | .rlaIzy _ | .rolZpx _ | .rlaZpx _ | .rlaAby _ | .rolAbx _ | .rlaAbx _
  | .sreIzx _ | .sreZp _ | .alr _ | .sreAbs _ | .sreIzy _ | .sreZpx _ | .sreAby _ | .sreAbx _ | .rorZp _
  | .rorAcc | .rorAbs _ | .rorZpx _ | .rorAbx _ | .cpyImm _ | .cmpIzx _ | .dcpIzx _ | .cpyZp _ | .cmpZp _
  | .dcpZp _ | .cmpImm _ | .axs _ | .cpyAbs _ | .cmpAbs _ | .dcpAbs _ | .cmpIzy _ | .dcpIzy _ | .cmpZpx _
  | .dcpZpx _ | .cmpAby _ | .dcpAby _ | .cmpAbx _ | .dcpAbx _ | .cpxImm _ | .cpxZp _ | .cpxAbs _ => .nzc
  | .clc => .clearC
  | .bitZp _ | .bitAbs _ => .bitTest
  | .plp | .rti => .all
  | .sec => .setC
  | .lsrZp _ | .lsrAcc | .lsrAbs _ | .lsrZpx _ | .lsrAbx _ => .zeroZc
  | .cli => .clearI
  | .adcIzx _ | .rraIzx _ | .adcZp _ | .rraZp _ | .adcImm _ | .arr _ | .adcAbs _ | .rraAbs _ | .adcIzy _
  | .rraIzy _ | .adcZpx _ | .rraZpx _ | .adcAby _ | .rraAby _ | .adcAbx _ | .rraAbx _ | .sbcIzx _
  | .iscIzx _ | .sbcZp _ | .iscZp _ | .sbcImm _ | .sbcImmEB _ | .sbcAbs _ | .iscAbs _ | .sbcIzy _
  | .iscIzy _ | .sbcZpx _ | .iscZpx _ | .sbcAby _ | .iscAby _ | .sbcAbx _ | .iscAbx _ => .nzcv
  | .clv => .clearV
  | .cld => .clearD
  | .sed => .setD

/-- An entry of the cycle column (00_scope.md R7, 70_reset_and_hazards.md R363). -/
inductive CycleEntry where
  /-- A plain count. -/
  | fixed (n : Nat)
  /-- `n*`: one more if indexing crosses a page boundary. -/
  | plusCross (n : Nat)
  /-- `2**`: the branch rule of 70_reset_and_hazards.md R361. -/
  | branch
  /-- `-`: KIL never completes (70_reset_and_hazards.md R362). -/
  | never
  deriving DecidableEq, Repr

/-- The cycle column of each row of spec/opcode_table.json. -/
def cycleEntry : Instr → CycleEntry
  | .brk | .sloAby _ | .aslAbx _ | .sloAbx _ | .rlaAby _ | .rolAbx _ | .rlaAbx _ | .sreAby _ | .lsrAbx _
  | .sreAbx _ | .rraAby _ | .rorAbx _ | .rraAbx _ | .dcpAby _ | .decAbx _ | .dcpAbx _ | .iscAby _
  | .incAbx _ | .iscAbx _ => .fixed 7
  | .oraIzx _ | .aslAbs _ | .sloAbs _ | .aslZpx _ | .sloZpx _ | .jsr _ | .andIzx _ | .rolAbs _ | .rlaAbs _
  | .rolZpx _ | .rlaZpx _ | .rti | .eorIzx _ | .lsrAbs _ | .sreAbs _ | .lsrZpx _ | .sreZpx _ | .rts
  | .adcIzx _ | .rorAbs _ | .rraAbs _ | .rorZpx _ | .rraZpx _ | .staIzx _ | .saxIzx _ | .staIzy _
  | .ahxIzy _ | .ldaIzx _ | .laxIzx _ | .cmpIzx _ | .decAbs _ | .dcpAbs _ | .decZpx _ | .dcpZpx _
  | .sbcIzx _ | .incAbs _ | .iscAbs _ | .incZpx _ | .iscZpx _ => .fixed 6
  | .kil02 | .kil12 | .kil22 | .kil32 | .kil42 | .kil52 | .kil62 | .kil72 | .kil92 | .kilB2 | .kilD2
  | .kilF2 => .never
  | .sloIzx _ | .sloIzy _ | .rlaIzx _ | .rlaIzy _ | .sreIzx _ | .sreIzy _ | .rraIzx _ | .rraIzy _
  | .dcpIzx _ | .dcpIzy _ | .iscIzx _ | .iscIzy _ => .fixed 8
  | .nopZp04 _ | .oraZp _ | .php | .bitZp _ | .andZp _ | .nopZp44 _ | .eorZp _ | .pha | .jmpAbs _
  | .nopZp64 _ | .adcZp _ | .styZp _ | .staZp _ | .stxZp _ | .saxZp _ | .ldyZp _ | .ldaZp _ | .ldxZp _
  | .laxZp _ | .cpyZp _ | .cmpZp _ | .cpxZp _ | .sbcZp _ => .fixed 3
  | .aslZp _ | .sloZp _ | .rolZp _ | .rlaZp _ | .lsrZp _ | .sreZp _ | .rorZp _ | .rraZp _ | .jmpInd _
  | .staAby _ | .tas _ | .shy _ | .staAbx _ | .shx _ | .ahxAby _ | .decZp _ | .dcpZp _ | .incZp _
  | .iscZp _ => .fixed 5
  | .oraImm _ | .aslAcc | .anc0B _ | .clc | .nop1A | .andImm _ | .rolAcc | .anc2B _ | .sec | .nop3A
  | .eorImm _ | .lsrAcc | .alr _ | .cli | .nop5A | .adcImm _ | .rorAcc | .arr _ | .sei | .nop7A
  | .nopImm80 _ | .nopImm82 _ | .dey | .nopImm89 _ | .txa | .xaa _ | .tya | .txs | .ldyImm _ | .ldxImm _
  | .tay | .ldaImm _ | .tax | .laxImm _ | .clv | .tsx | .cpyImm _ | .nopImmC2 _ | .iny | .cmpImm _ | .dex
  | .axs _ | .cld | .nopDA | .cpxImm _ | .nopImmE2 _ | .inx | .sbcImm _ | .nop | .sbcImmEB _ | .sed
  | .nopFA => .fixed 2
  | .nopAbs0C _ | .oraAbs _ | .nopZpx14 _ | .oraZpx _ | .plp | .bitAbs _ | .andAbs _ | .nopZpx34 _
  | .andZpx _ | .eorAbs _ | .nopZpx54 _ | .eorZpx _ | .pla | .adcAbs _ | .nopZpx74 _ | .adcZpx _
  | .styAbs _ | .staAbs _ | .stxAbs _ | .saxAbs _ | .styZpx _ | .staZpx _ | .stxZpy _ | .saxZpy _
  | .ldyAbs _ | .ldaAbs _ | .ldxAbs _ | .laxAbs _ | .ldyZpx _ | .ldaZpx _ | .ldxZpy _ | .laxZpy _
  | .cpyAbs _ | .cmpAbs _ | .nopZpxD4 _ | .cmpZpx _ | .cpxAbs _ | .sbcAbs _ | .nopZpxF4 _ | .sbcZpx _ => .fixed 4
  | .bpl _ | .bmi _ | .bvc _ | .bvs _ | .bcc _ | .bcs _ | .bne _ | .beq _ => .branch
  | .oraIzy _ | .andIzy _ | .eorIzy _ | .adcIzy _ | .ldaIzy _ | .laxIzy _ | .cmpIzy _ | .sbcIzy _ => .plusCross 5
  | .oraAby _ | .nopAbx1C _ | .oraAbx _ | .andAby _ | .nopAbx3C _ | .andAbx _ | .eorAby _ | .nopAbx5C _
  | .eorAbx _ | .adcAby _ | .nopAbx7C _ | .adcAbx _ | .ldaAby _ | .las _ | .ldyAbx _ | .ldaAbx _
  | .ldxAby _ | .laxAbx _ | .cmpAby _ | .nopAbxDC _ | .cmpAbx _ | .sbcAby _ | .nopAbxFC _ | .sbcAbx _ => .plusCross 4

/-- The 75 mnemonics of spec/opcode_table.json. -/
inductive Mnemonic where
  | ADC | AHX | ALR | ANC | AND | ARR | ASL | AXS | BCC | BCS | BEQ | BIT | BMI | BNE | BPL
  | BRK | BVC | BVS | CLC | CLD | CLI | CLV | CMP | CPX | CPY | DCP | DEC | DEX | DEY | EOR
  | INC | INX | INY | ISC | JMP | JSR | KIL | LAS | LAX | LDA | LDX | LDY | LSR | NOP | ORA
  | PHA | PHP | PLA | PLP | RLA | ROL | ROR | RRA | RTI | RTS | SAX | SBC | SEC | SED | SEI
  | SHX | SHY | SLO | SRE | STA | STX | STY | TAS | TAX | TAY | TSX | TXA | TXS | TYA | XAA
  deriving DecidableEq, Repr

/-- The mnemonic of each row of spec/opcode_table.json. -/
def mnemonicOf : Instr → Mnemonic
  | .brk => .BRK
  | .oraIzx _ | .oraZp _ | .oraImm _ | .oraAbs _ | .oraIzy _ | .oraZpx _ | .oraAby _ | .oraAbx _ => .ORA
  | .kil02 | .kil12 | .kil22 | .kil32 | .kil42 | .kil52 | .kil62 | .kil72 | .kil92 | .kilB2 | .kilD2
  | .kilF2 => .KIL
  | .sloIzx _ | .sloZp _ | .sloAbs _ | .sloIzy _ | .sloZpx _ | .sloAby _ | .sloAbx _ => .SLO
  | .nopZp04 _ | .nopAbs0C _ | .nopZpx14 _ | .nop1A | .nopAbx1C _ | .nopZpx34 _ | .nop3A | .nopAbx3C _
  | .nopZp44 _ | .nopZpx54 _ | .nop5A | .nopAbx5C _ | .nopZp64 _ | .nopZpx74 _ | .nop7A | .nopAbx7C _
  | .nopImm80 _ | .nopImm82 _ | .nopImm89 _ | .nopImmC2 _ | .nopZpxD4 _ | .nopDA | .nopAbxDC _
  | .nopImmE2 _ | .nop | .nopZpxF4 _ | .nopFA | .nopAbxFC _ => .NOP
  | .aslZp _ | .aslAcc | .aslAbs _ | .aslZpx _ | .aslAbx _ => .ASL
  | .php => .PHP
  | .anc0B _ | .anc2B _ => .ANC
  | .bpl _ => .BPL
  | .clc => .CLC
  | .jsr _ => .JSR
  | .andIzx _ | .andZp _ | .andImm _ | .andAbs _ | .andIzy _ | .andZpx _ | .andAby _ | .andAbx _ => .AND
  | .rlaIzx _ | .rlaZp _ | .rlaAbs _ | .rlaIzy _ | .rlaZpx _ | .rlaAby _ | .rlaAbx _ => .RLA
  | .bitZp _ | .bitAbs _ => .BIT
  | .rolZp _ | .rolAcc | .rolAbs _ | .rolZpx _ | .rolAbx _ => .ROL
  | .plp => .PLP
  | .bmi _ => .BMI
  | .sec => .SEC
  | .rti => .RTI
  | .eorIzx _ | .eorZp _ | .eorImm _ | .eorAbs _ | .eorIzy _ | .eorZpx _ | .eorAby _ | .eorAbx _ => .EOR
  | .sreIzx _ | .sreZp _ | .sreAbs _ | .sreIzy _ | .sreZpx _ | .sreAby _ | .sreAbx _ => .SRE
  | .lsrZp _ | .lsrAcc | .lsrAbs _ | .lsrZpx _ | .lsrAbx _ => .LSR
  | .pha => .PHA
  | .alr _ => .ALR
  | .jmpAbs _ | .jmpInd _ => .JMP
  | .bvc _ => .BVC
  | .cli => .CLI
  | .rts => .RTS
  | .adcIzx _ | .adcZp _ | .adcImm _ | .adcAbs _ | .adcIzy _ | .adcZpx _ | .adcAby _ | .adcAbx _ => .ADC
  | .rraIzx _ | .rraZp _ | .rraAbs _ | .rraIzy _ | .rraZpx _ | .rraAby _ | .rraAbx _ => .RRA
  | .rorZp _ | .rorAcc | .rorAbs _ | .rorZpx _ | .rorAbx _ => .ROR
  | .pla => .PLA
  | .arr _ => .ARR
  | .bvs _ => .BVS
  | .sei => .SEI
  | .staIzx _ | .staZp _ | .staAbs _ | .staIzy _ | .staZpx _ | .staAby _ | .staAbx _ => .STA
  | .saxIzx _ | .saxZp _ | .saxAbs _ | .saxZpy _ => .SAX
  | .styZp _ | .styAbs _ | .styZpx _ => .STY
  | .stxZp _ | .stxAbs _ | .stxZpy _ => .STX
  | .dey => .DEY
  | .txa => .TXA
  | .xaa _ => .XAA
  | .bcc _ => .BCC
  | .ahxIzy _ | .ahxAby _ => .AHX
  | .tya => .TYA
  | .txs => .TXS
  | .tas _ => .TAS
  | .shy _ => .SHY
  | .shx _ => .SHX
  | .ldyImm _ | .ldyZp _ | .ldyAbs _ | .ldyZpx _ | .ldyAbx _ => .LDY
  | .ldaIzx _ | .ldaZp _ | .ldaImm _ | .ldaAbs _ | .ldaIzy _ | .ldaZpx _ | .ldaAby _ | .ldaAbx _ => .LDA
  | .ldxImm _ | .ldxZp _ | .ldxAbs _ | .ldxZpy _ | .ldxAby _ => .LDX
  | .laxIzx _ | .laxZp _ | .laxImm _ | .laxAbs _ | .laxIzy _ | .laxZpy _ | .laxAbx _ => .LAX
  | .tay => .TAY
  | .tax => .TAX
  | .bcs _ => .BCS
  | .clv => .CLV
  | .tsx => .TSX
  | .las _ => .LAS
  | .cpyImm _ | .cpyZp _ | .cpyAbs _ => .CPY
  | .cmpIzx _ | .cmpZp _ | .cmpImm _ | .cmpAbs _ | .cmpIzy _ | .cmpZpx _ | .cmpAby _ | .cmpAbx _ => .CMP
  | .dcpIzx _ | .dcpZp _ | .dcpAbs _ | .dcpIzy _ | .dcpZpx _ | .dcpAby _ | .dcpAbx _ => .DCP
  | .decZp _ | .decAbs _ | .decZpx _ | .decAbx _ => .DEC
  | .iny => .INY
  | .dex => .DEX
  | .axs _ => .AXS
  | .bne _ => .BNE
  | .cld => .CLD
  | .cpxImm _ | .cpxZp _ | .cpxAbs _ => .CPX
  | .sbcIzx _ | .sbcZp _ | .sbcImm _ | .sbcImmEB _ | .sbcAbs _ | .sbcIzy _ | .sbcZpx _ | .sbcAby _
  | .sbcAbx _ => .SBC
  | .iscIzx _ | .iscZp _ | .iscAbs _ | .iscIzy _ | .iscZpx _ | .iscAby _ | .iscAbx _ => .ISC
  | .incZp _ | .incAbs _ | .incZpx _ | .incAbx _ => .INC
  | .inx => .INX
  | .beq _ => .BEQ
  | .sed => .SED

/-- The form that gives an instruction its effective address, where it has one; opcode BF's follows
`LAX_BF_INDEX` (30_encoding.md R109, 44_illegal_opcodes.md R232). -/
def addrFormOf (cfg : Config) : Instr → Option AddrForm
  | .laxAbx nnnn => some (match cfg.laxBfIndex with | .x => .abx nnnn | .y => .aby nnnn)
  | .nopZp04 nn | .oraZp nn | .aslZp nn | .sloZp nn | .bitZp nn | .andZp nn | .rolZp nn | .rlaZp nn
  | .nopZp44 nn | .eorZp nn | .lsrZp nn | .sreZp nn | .nopZp64 nn | .adcZp nn | .rorZp nn | .rraZp nn
  | .styZp nn | .staZp nn | .stxZp nn | .saxZp nn | .ldyZp nn | .ldaZp nn | .ldxZp nn | .laxZp nn
  | .cpyZp nn | .cmpZp nn | .decZp nn | .dcpZp nn | .cpxZp nn | .sbcZp nn | .incZp nn | .iscZp nn => some (.zp nn)
  | .nopZpx14 nn | .oraZpx nn | .aslZpx nn | .sloZpx nn | .nopZpx34 nn | .andZpx nn | .rolZpx nn
  | .rlaZpx nn | .nopZpx54 nn | .eorZpx nn | .lsrZpx nn | .sreZpx nn | .nopZpx74 nn | .adcZpx nn
  | .rorZpx nn | .rraZpx nn | .styZpx nn | .staZpx nn | .ldyZpx nn | .ldaZpx nn | .nopZpxD4 nn | .cmpZpx nn
  | .decZpx nn | .dcpZpx nn | .nopZpxF4 nn | .sbcZpx nn | .incZpx nn | .iscZpx nn => some (.zpx nn)
  | .stxZpy nn | .saxZpy nn | .ldxZpy nn | .laxZpy nn => some (.zpy nn)
  | .nopAbs0C nnnn | .oraAbs nnnn | .aslAbs nnnn | .sloAbs nnnn | .bitAbs nnnn | .andAbs nnnn
  | .rolAbs nnnn | .rlaAbs nnnn | .eorAbs nnnn | .lsrAbs nnnn | .sreAbs nnnn | .adcAbs nnnn | .rorAbs nnnn
  | .rraAbs nnnn | .styAbs nnnn | .staAbs nnnn | .stxAbs nnnn | .saxAbs nnnn | .ldyAbs nnnn | .ldaAbs nnnn
  | .ldxAbs nnnn | .laxAbs nnnn | .cpyAbs nnnn | .cmpAbs nnnn | .decAbs nnnn | .dcpAbs nnnn | .cpxAbs nnnn
  | .sbcAbs nnnn | .incAbs nnnn | .iscAbs nnnn => some (.abs nnnn)
  | .nopAbx1C nnnn | .oraAbx nnnn | .aslAbx nnnn | .sloAbx nnnn | .nopAbx3C nnnn | .andAbx nnnn
  | .rolAbx nnnn | .rlaAbx nnnn | .nopAbx5C nnnn | .eorAbx nnnn | .lsrAbx nnnn | .sreAbx nnnn
  | .nopAbx7C nnnn | .adcAbx nnnn | .rorAbx nnnn | .rraAbx nnnn | .shy nnnn | .staAbx nnnn | .ldyAbx nnnn
  | .ldaAbx nnnn | .nopAbxDC nnnn | .cmpAbx nnnn | .decAbx nnnn | .dcpAbx nnnn | .nopAbxFC nnnn
  | .sbcAbx nnnn | .incAbx nnnn | .iscAbx nnnn => some (.abx nnnn)
  | .oraAby nnnn | .sloAby nnnn | .andAby nnnn | .rlaAby nnnn | .eorAby nnnn | .sreAby nnnn | .adcAby nnnn
  | .rraAby nnnn | .staAby nnnn | .tas nnnn | .shx nnnn | .ahxAby nnnn | .ldaAby nnnn | .las nnnn
  | .ldxAby nnnn | .cmpAby nnnn | .dcpAby nnnn | .sbcAby nnnn | .iscAby nnnn => some (.aby nnnn)
  | .oraIzx nn | .sloIzx nn | .andIzx nn | .rlaIzx nn | .eorIzx nn | .sreIzx nn | .adcIzx nn | .rraIzx nn
  | .staIzx nn | .saxIzx nn | .ldaIzx nn | .laxIzx nn | .cmpIzx nn | .dcpIzx nn | .sbcIzx nn | .iscIzx nn => some (.izx nn)
  | .oraIzy nn | .sloIzy nn | .andIzy nn | .rlaIzy nn | .eorIzy nn | .sreIzy nn | .adcIzy nn | .rraIzy nn
  | .staIzy nn | .ahxIzy nn | .ldaIzy nn | .laxIzy nn | .cmpIzy nn | .dcpIzy nn | .sbcIzy nn | .iscIzy nn => some (.izy nn)
  | .brk | .kil02 | .php | .oraImm _ | .aslAcc | .anc0B _ | .bpl _ | .kil12 | .clc | .nop1A | .jsr _
  | .kil22 | .plp | .andImm _ | .rolAcc | .anc2B _ | .bmi _ | .kil32 | .sec | .nop3A | .rti | .kil42 | .pha
  | .eorImm _ | .lsrAcc | .alr _ | .jmpAbs _ | .bvc _ | .kil52 | .cli | .nop5A | .rts | .kil62 | .pla
  | .adcImm _ | .rorAcc | .arr _ | .jmpInd _ | .bvs _ | .kil72 | .sei | .nop7A | .nopImm80 _ | .nopImm82 _
  | .dey | .nopImm89 _ | .txa | .xaa _ | .bcc _ | .kil92 | .tya | .txs | .ldyImm _ | .ldxImm _ | .tay
  | .ldaImm _ | .tax | .laxImm _ | .bcs _ | .kilB2 | .clv | .tsx | .cpyImm _ | .nopImmC2 _ | .iny
  | .cmpImm _ | .dex | .axs _ | .bne _ | .kilD2 | .cld | .nopDA | .cpxImm _ | .nopImmE2 _ | .inx
  | .sbcImm _ | .nop | .sbcImmEB _ | .beq _ | .kilF2 | .sed | .nopFA => none

end Sys2Proof.Machine
end

