-- ==== Sys2Proof/Machine/Timing.lean ====
section
/-! DEFINITION. The cycle counts the source prints (70_reset_and_hazards.md R360 to R363), as a function of an
instruction and the state it starts in. Informative (92_eei_decisions.md D28): `step` does not read it (log 31). -/

namespace Sys2Proof.Machine

/-- The condition of a branch and its displacement (43_jump_control.md R197 to R204). -/
def branchOf (i : Instr) (p : Flags) : Option (Bool × Byte) :=
  match i with
  | .bpl dd => some (!p.n, dd)
  | .bmi dd => some (p.n, dd)
  | .bvc dd => some (!p.v, dd)
  | .bvs dd => some (p.v, dd)
  | .bcc dd => some (!p.c, dd)
  | .bcs dd => some (p.c, dd)
  | .bne dd => some (!p.z, dd)
  | .beq dd => some (p.z, dd)
  | _ => none

/-- Two addresses lie in one page. -/
def samePage (p q : Word) : Bool := hiByte p == hiByte q

/-- The cycles of a branch: 2 when not taken, 3 when its target is in the page of `a + 2`, else 4
(70_reset_and_hazards.md R361). -/
def branchCycles (taken : Bool) (dd : Byte) (s : State) : Nat :=
  if taken then (if samePage (s.pc + 2) (s.branchTarget dd) then 3 else 4) else 2

/-- The cycles an instruction takes from a state; none for KIL (70_reset_and_hazards.md R360 to R363). -/
def cycles (i : Instr) (s : State) : Option Nat :=
  match cycleEntry i with
  | .fixed n => some n
  | .plusCross n =>
    match addrFormOf s.cfg i with
    | some f => some (if f.crossesPage s then n + 1 else n)
    | none => some n
  | .branch =>
    match branchOf i s.p with
    | some (taken, dd) => some (branchCycles taken dd s)
    | none => none
  | .never => none

end Sys2Proof.Machine
end

