-- ==== Sys2Proof/Safety.lean ====
section
/-! DEFINITION. The terms claims are made in: the invariant of the machine's data, what an outcome leaves alone,
what an interrupt entry leaves, the lists of one mnemonic's operand forms, runs that end. -/

namespace Sys2Proof.Machine

/-! ## States -/

/-- Memory is in its canonical form and every listed location exists on the part (20_memory.md R60, R67). -/
def State.Inv (s : State) : Prop :=
  s.mem.wf ∧ ∀ cell ∈ s.mem, cell.1 < s.cfg.addrLines.space

/-- The whole stack page is RAM (20_memory.md R66). -/
def StackIsRam (s : State) : Prop := ∀ sp : Byte, kindAt s.cfg (stackAddr sp) = .ram

/-- What only the environment and the step around an instruction move: lines, pin changes to come, the NMI latch,
the counter of free values, the parameters. -/
def SameSurroundings (s t : State) : Prop :=
  t.lines = s.lines ∧ t.inputs = s.inputs ∧ t.nmiPending = s.nmiPending ∧ t.tick = s.tick ∧ t.cfg = s.cfg

/-- Every byte reads as before except those that stand at the same location as one of `addrs`
(20_memory.md R67, R70). -/
def SameBytesBut (addrs : List Word) (s t : State) : Prop :=
  ∀ (k : AccessKind) (b : Word), (∀ a ∈ addrs, cellOf s.cfg a ≠ cellOf s.cfg b) → t.read k b = s.read k b

/-- `t` is `s` after an interrupt entry: the frame of three bytes, S three lower, I set after P was pushed, PC from
the vector, everything else as it was (60_exceptions.md R303). -/
def InterruptEntered (s t : State) (vector : Word) (b : Bool) (ret : Word) : Prop :=
  t.a = s.a ∧ t.x = s.x ∧ t.y = s.y ∧ t.sp = s.sp - 3 ∧ t.p = { s.p with i := true } ∧ t.halted = s.halted ∧
  t.pc = wordOf (s.read .vector vector) (s.read .vector (vector + 1)) ∧
  SameBytesBut [stackAddr s.sp, stackAddr (s.sp - 1), stackAddr (s.sp - 2)] s t ∧
  (s.mem.wf → StackIsRam s → ∀ k : AccessKind,
    t.read k (stackAddr s.sp) = hiByte ret ∧
    t.read k (stackAddr (s.sp - 1)) = loByte ret ∧
    t.read k (stackAddr (s.sp - 2)) = s.p.pByte b) ∧
  t.bus = s.bus ++
    [s.wrOf (stackAddr s.sp) (hiByte ret), s.wrOf (stackAddr (s.sp - 1)) (loByte ret),
      s.wrOf (stackAddr (s.sp - 2)) (s.p.pByte b), s.rdOf .vector vector, s.rdOf .vector (vector + 1)]

/-- The level of one of the three lines (10_state.md R43). -/
def Lines.level (l : Lines) : Line → Level
  | .irq => l.irq
  | .nmi => l.nmi
  | .reset => l.reset

/-- A list of pin changes, from a level of /NMI, makes /NMI fall from HIGH to LOW at least once
(60_exceptions.md R312). -/
def nmiFalls : Level → List PinChange → Bool
  | _, [] => false
  | now, ch :: rest =>
    if ch.line = .nmi then (now == .high && ch.level == .low) || nmiFalls ch.level rest else nmiFalls now rest

/-- No pin change still to come drives /RESET LOW. -/
def NoResetToCome (s : State) : Prop := ∀ entry ∈ s.inputs, ∀ ch ∈ entry, ch ≠ ⟨.reset, .low⟩

/-! ## Outcomes and runs -/

/-- An outcome is a next state. -/
def Completes (o : Out) : Prop := ∃ t, o = .next t

/-- The same instruction performed `k` times. -/
def execTimes (i : Instr) : Nat → State → Out
  | 0, s => .next s
  | k + 1, s =>
    match exec i s with
    | .next t => execTimes i k t
    | .fault e => .fault e
    | .refused e => .refused e

/-- `k` steps, stopping at the first fault or refusal. -/
def steps : Nat → State → Out
  | 0, s => .next s
  | k + 1, s =>
    match step s with
    | .next t => steps k t
    | .fault e => .fault e
    | .refused e => .refused e

/-- `END_OF_RUN` is the user's (92_eei_decisions.md D19): the run from `s` ends in `t`, the state after `k` steps,
the first that the predicate accepts. -/
def RunEnds (endOfRun : State → Bool) (s t : State) : Nat → Prop
  | 0 => s = t ∧ endOfRun t = true
  | k + 1 => endOfRun s = false ∧ ∃ s', step s = .next s' ∧ RunEnds endOfRun s' t k

/-! ## The operand forms of one mnemonic -/

/-- The eight forms of ADC, SBC, AND, EOR, ORA, CMP and LDA (41_arithmetic_logical.md R150), each instruction with its
operand. -/
def eightForms (imm zp zpx izx izy : Byte → Instr) (abs abx aby : Word → Instr) (nn : Byte) (nnnn : Word) :
    List (Instr × Operand) :=
  [(imm nn, .imm nn), (zp nn, .mem (.zp nn)), (zpx nn, .mem (.zpx nn)), (izx nn, .mem (.izx nn)),
    (izy nn, .mem (.izy nn)), (abs nnnn, .mem (.abs nnnn)), (abx nnnn, .mem (.abx nnnn)),
    (aby nnnn, .mem (.aby nnnn))]

/-- The seven forms of STA and of SLO, RLA, SRE, RRA, DCP, ISC (44_illegal_opcodes.md R233). -/
def sevenForms (zp zpx izx izy : Byte → Instr) (abs abx aby : Word → Instr) (nn : Byte) (nnnn : Word) :
    List (Instr × AddrForm) :=
  [(zp nn, .zp nn), (zpx nn, .zpx nn), (izx nn, .izx nn), (izy nn, .izy nn), (abs nnnn, .abs nnnn),
    (abx nnnn, .abx nnnn), (aby nnnn, .aby nnnn)]

/-- The four memory forms of INC, DEC, ASL, LSR, ROL, ROR (42_rotate_shift.md R186). -/
def fourForms (zp zpx : Byte → Instr) (abs abx : Word → Instr) (nn : Byte) (nnnn : Word) :
    List (Instr × AddrForm) :=
  [(zp nn, .zp nn), (zpx nn, .zpx nn), (abs nnnn, .abs nnnn), (abx nnnn, .abx nnnn)]

/-- PC after an instruction that does not transfer control: `(a + L) mod 10000h` (10_state.md R25). -/
def State.pcAfter (s : State) (i : Instr) : Word := s.pc + BitVec.ofNat 16 i.length

end Sys2Proof.Machine
end

