-- ==== Sys2Proof/Certificates/Slice0/Obligations.lean ====
section
/-! DEFINITION. The statements for the provers, from the numbered rules of spec/. In a statement about an instruction
`s` is the state with PC at its opcode byte; an equation `exec i s = .next { s with … }` says the result and the frame at
once: every field not named is as in `s`. -/

open Sys2Proof Sys2Proof.Machine

/-! ## Encoding -/

/-- Sample words of 30_encoding.md R108, at least one for each family, decode as the matrix says.
Rests on log 1. -/
def Obligations.SampleWordsDecodeAsTheMatrixSays : Prop :=
  decode [0xB5, 0x80] = .ok (.ldaZpx 0x80, []) ∧
  decode [0xB6, 0x12] = .ok (.ldxZpy 0x12, []) ∧
  decode [0x91, 0x20] = .ok (.staIzy 0x20, []) ∧
  decode [0x6D, 0x34, 0x12] = .ok (.adcAbs 0x1234, []) ∧
  decode [0x7E, 0x00, 0x03] = .ok (.rorAbx 0x0300, []) ∧
  decode [0x6C, 0xFF, 0x03] = .ok (.jmpInd 0x03FF, []) ∧
  decode [0xD0, 0xFE] = .ok (.bne 0xFE, []) ∧
  decode [0x00, 0xEA] = .ok (.brk, [0xEA]) ∧
  decode [0x7B, 0x00, 0x02] = .ok (.rraAby 0x0200, []) ∧
  decode [0xEB, 0x20] = .ok (.sbcImmEB 0x20, []) ∧
  decode [0x92] = .ok (.kil92, [])

/-- Decoding the bytes of any instruction, whatever follows them, gives it back (30_encoding.md R90 to R93).
Rests on log 1. -/
def Obligations.DecodeOfEncodeIsTheInstruction : Prop :=
  ∀ (i : Instr) (rest : List Byte), decode (encode i ++ rest) = .ok (i, rest)

/-- Encoding what was decoded gives the bytes back, as many as the instruction has, and the opcode byte alone fixes how
many (30_encoding.md R90).
Rests on log 1. -/
def Obligations.EncodeOfDecodeIsTheBytes : Prop :=
  ∀ op b1 b2 : Byte,
    encode (decodeBytes op b1 b2) = [op, b1, b2].take (decodeBytes op b1 b2).length ∧
    ∀ c1 c2 : Byte, (decodeBytes op c1 c2).length = (decodeBytes op b1 b2).length

/-- A list of bytes is refused only where it is empty or ends before its instruction does (30_encoding.md R93, R110). -/
def Obligations.DecodeRefusesOnlyTruncatedLists : Prop :=
  decode [] = .error .noOpcode ∧
  ∀ (op : Byte) (rest : List Byte),
    ((decodeBytes op (rest.getD 0 0) (rest.getD 1 0)).length ≤ rest.length + 1 →
      ∃ i tail, decode (op :: rest) = .ok (i, tail) ∧ op :: rest = encode i ++ tail) ∧
    (rest.length + 1 < (decodeBytes op (rest.getD 0 0) (rest.getD 1 0)).length →
      decode (op :: rest) = .error (.missingOperand op))

/-! ## The step -/

/-- When the boundary chooses the instruction at PC and its bytes decode to `i`, the step is `exec i` in the state that the
environment's move and the fetch leave (60_exceptions.md R320, 30_encoding.md R93).
Rests on logs 3, 6, 14 and 30. -/
def Obligations.StepRunsTheDecodedInstruction : Prop :=
  ∀ (s : State) (i : Instr) (rest : List Byte) (op b1 b2 : Byte),
    s.boundary.choice = .instruction →
    op = s.boundary.read .opcode s.pc → b1 = s.boundary.read .operand (s.pc + 1) →
    b2 = s.boundary.read .operand (s.pc + 2) →
    decode [op, b1, b2] = .ok (i, rest) →
    step s = exec i s.boundary.afterFetch ∧
    s.boundary.afterFetch =
      { s with
        lines := s.boundary.lines
        nmiPending := s.boundary.nmiPending
        inputs := s.inputs.tail
        lateI := none
        tick := s.tick + 1
        bus :=
          [.rd (cellOf s.cfg s.pc) op, .rd (cellOf s.cfg (s.pc + 1)) b1, .rd (cellOf s.cfg (s.pc + 2)) b2].take
            i.length }

/-- An instruction placed by `withFetchWord` is the one the next step performs, from every state whose memory is in
canonical form; the decoder reads an instruction from every word. The model's own placement, log 33.
Rests on log 33. -/
def Obligations.PlacedInstructionIsTheNextOneRun : Prop :=
  ∀ (s : State) (nbits w : Nat), s.mem.wf →
    ∃ i, decodeTableWord nbits w = some i ∧
      step (s.withFetchWord nbits w) = exec i (s.withFetchWord nbits w).boundary.afterFetch

/-- The choice at a boundary: RESET, then halted, then NMI, then IRQ, then the instruction (60_exceptions.md R320); a
step faults exactly when the CPU is halted, /RESET is HIGH and no pin change is left. What a halted CPU does while the
environment still has pin changes to make, and the name of the fault, are the model's choice, log 18.
Rests on logs 15, 18 and 19. -/
def Obligations.StepFollowsTheOrderOfEvents : Prop :=
  ∀ s : State,
    (s.boundary.lines.reset = .low → step s = .next s.boundary.begun.resetSequence) ∧
    (s.boundary.lines.reset = .high → s.halted = true →
      step s = if s.inputs = [] then .fault .stuck else .next s.boundary.begun) ∧
    (s.boundary.lines.reset = .high → s.halted = false → s.boundary.nmiPending = true →
      step s = .next s.boundary.begun.takeNmi) ∧
    (s.boundary.lines.reset = .high → s.halted = false → s.boundary.nmiPending = false →
      (s.cfg.irqPin = true ∧ s.boundary.lines.irq = .low ∧ s.boundary.effectiveI = false) →
      step s = .next s.boundary.begun.takeIrq) ∧
    (s.boundary.lines.reset = .high → s.halted = false → s.boundary.nmiPending = false →
      ¬(s.cfg.irqPin = true ∧ s.boundary.lines.irq = .low ∧ s.boundary.effectiveI = false) →
      step s = exec s.boundary.fetched s.boundary.afterFetch) ∧
    ((∃ e, step s = .fault e) ↔ s.halted = true ∧ s.boundary.lines.reset = .high ∧ s.inputs = [])

/-- Every step advances the counter of the free values, takes one entry of pin changes, and leaves the parameters: so no
two steps of a run read the same free values. The counter is the model's own, logs 6, 14 and 32.
Rests on logs 6, 14 and 32. -/
def Obligations.EveryStepTakesFreshFreeValues : Prop :=
  ∀ s t : State, step s = .next t →
    t.tick = s.tick + 1 ∧ t.cfg = s.cfg ∧ t.inputs = s.inputs.tail ∧ t.lines = s.boundary.lines

/-- The invariant that every step keeps, from every state: memory in canonical form, no location the part has not.
Rests on logs 9 and 13. -/
def Obligations.EveryStepKeepsTheInvariant : Prop :=
  ∀ s t : State, s.Inv → step s = .next t → t.Inv

/-- The state after reset satisfies the invariant.
Rests on log 9. -/
def Obligations.ResetStateSatisfiesTheInvariant : Prop := State.reset.Inv

/-- The state after reset, in what 10_state.md R45 gives it: PC the word at FFFCh, I = 1, no NMI pending, not halted. That
the unlisted bytes of the vector read as zero is log 9.
Rests on logs 9 and 19. -/
def Obligations.ResetStateHasTheValuesTheSpecGives : Prop :=
  State.reset.pc = State.reset.readWord .vector 0xFFFC 0xFFFD ∧ State.reset.p.i = true ∧
  State.reset.nmiPending = false ∧ State.reset.halted = false

/-! ## Events -/

/-- RESET, from any state at all: PC from FFFCh, I set, not halted, no NMI pending, memory untouched, two reads
(70_reset_and_hazards.md R340).
Rests on log 19. -/
def Obligations.ResetGoesThroughItsVector : Prop :=
  ∀ s : State, s.boundary.lines.reset = .low →
    ∃ t, step s = .next t ∧
      t.pc = wordOf (s.boundary.read .vector 0xFFFC) (s.boundary.read .vector 0xFFFD) ∧
      t.p.i = true ∧ t.halted = false ∧ t.nmiPending = false ∧ t.mem = s.mem ∧
      t.bus = [s.boundary.rdOf .vector 0xFFFC, s.boundary.rdOf .vector 0xFFFD]

/-- The common entry sequence, for each of the two vectors it is used with: the stack frame, P with the old I and B as
given, I set after, PC through the vector (60_exceptions.md R303).
Rests on log 2. -/
def Obligations.InterruptEntrySavesAndVectors : Prop :=
  ∀ (s : State) (vector : Word) (b : Bool) (ret : Word), vector ∈ [nmiVector, irqVector] →
    InterruptEntered s (s.interrupt vector b ret) vector b ret

/-- NMI and IRQ, /RESET HIGH and the CPU not halted: a latched NMI is taken through FFFAh whatever I holds and clears the
latch; with none latched, /IRQ LOW and the effective I = 0, IRQ is taken through FFFEh. Both push B = 0 and return to the
instruction at PC (60_exceptions.md R305, R306).
Rests on logs 2, 15, 16 and 17. -/
def Obligations.NmiAndIrqAreTakenAtABoundary : Prop :=
  ∀ s : State, s.boundary.lines.reset = .high → s.halted = false →
    (s.boundary.nmiPending = true →
      ∃ t, step s = .next t ∧ t.nmiPending = false ∧ InterruptEntered s.boundary t 0xFFFA false s.pc) ∧
    (s.boundary.nmiPending = false → s.cfg.irqPin = true → s.boundary.lines.irq = .low →
      s.boundary.effectiveI = false →
      ∃ t, step s = .next t ∧ t.nmiPending = false ∧ InterruptEntered s.boundary t 0xFFFE false s.pc)

/-- What the pin changes of a boundary leave: a line that some change drives has the level of the last of them, a line
that none drives has the level it had; the latch of /NMI is set by a falling edge, never by a level, and by nothing on a
part without the pin (10_state.md R43, 60_exceptions.md R312). A boundary makes the changes of the next entry of
`inputs`, none where the list is empty, and leaves registers, flags, `halted`, memory and parameters. That the
environment is such a list is the model's choice, log 14.
Rests on logs 6, 14, 16 and 30. -/
def Obligations.NmiLatchIsSetByFallingEdges : Prop :=
  (∀ (changes : List PinChange) (s : State),
    (∀ line : Line, (∀ ch ∈ changes, ch.line ≠ line) →
      (s.driveAll changes).lines.level line = s.lines.level line) ∧
    (∀ (line : Line) (level : Level) (before later : List PinChange),
      changes = before ++ ⟨line, level⟩ :: later → (∀ ch ∈ later, ch.line ≠ line) →
      (s.driveAll changes).lines.level line = level) ∧
    (s.driveAll changes).nmiPending = (s.nmiPending || (s.cfg.nmiPin && nmiFalls s.lines.nmi changes)) ∧
    s.driveAll changes =
      { s with lines := (s.driveAll changes).lines, nmiPending := (s.driveAll changes).nmiPending }) ∧
  ∀ (s : State) (now : List PinChange) (rest : List (List PinChange)),
    (s.inputs = now :: rest ∨ s.inputs = [] ∧ now = [] ∧ rest = []) →
    s.boundary =
      { s with
        lines := (s.driveAll now).lines
        nmiPending := (s.driveAll now).nmiPending
        inputs := rest
        tick := s.tick + 1
        bus := [] }

/-- The I that the IRQ test sees: the flag, or directly after CLI, SEI or PLP either the old or the new one; and those
three are the instructions that leave the old one to be seen (60_exceptions.md R325).
Rests on log 17. -/
def Obligations.IrqTestSeesOldOrNewI : Prop :=
  (∀ s : State, s.cfg.irqLatency = .immediate ∨ s.lateI = none → s.effectiveI = s.p.i) ∧
  (∀ (s : State) (old : Bool), s.lateI = some old → s.effectiveI = old ∨ s.effectiveI = s.p.i) ∧
  ∀ (i : Instr) (s t : State), exec i s = .next t →
    t.lateI = if mnemonicOf i ∈ [.CLI, .SEI, .PLP] then some s.p.i else s.lateI

/-- BRK completes from every state: the entry through FFFEh with B = 1 and the return address `a + 2`
(43_jump_control.md R211).
Rests on logs 2 and 34. -/
def Obligations.BrkEntersThroughItsVector : Prop :=
  ∀ s : State, ∃ t, exec .brk s = .next t ∧ InterruptEntered s t 0xFFFE true (s.pc + 2) ∧
    SameSurroundings s t ∧ t.lateI = s.lateI

/-- RTI completes from every state: flags from the first byte pulled, PC from the next two, low byte first, no one added
(43_jump_control.md R195).
Rests on log 2. -/
def Obligations.RtiRestoresFlagsAndPc : Prop :=
  ∀ s : State,
    exec .rti s = .next
      { s with
        p :=
          { n := (s.read .stack (stackAddr (s.sp + 1))).getLsbD 7
            v := (s.read .stack (stackAddr (s.sp + 1))).getLsbD 6
            d := (s.read .stack (stackAddr (s.sp + 1))).getLsbD 3
            i := (s.read .stack (stackAddr (s.sp + 1))).getLsbD 2
            z := (s.read .stack (stackAddr (s.sp + 1))).getLsbD 1
            c := (s.read .stack (stackAddr (s.sp + 1))).getLsbD 0 }
        pc := wordOf (s.read .stack (stackAddr (s.sp + 2))) (s.read .stack (stackAddr (s.sp + 3)))
        sp := s.sp + 3
        bus := s.bus ++
          [s.rdOf .stack (stackAddr (s.sp + 1)), s.rdOf .stack (stackAddr (s.sp + 2)),
            s.rdOf .stack (stackAddr (s.sp + 3))] }

/-- An interrupt entry and an RTI with the frame intact undo each other: from any state `u` in which S and the three
bytes of the frame are as the entry left them, RTI resumes at the saved address with the saved flags and S
(60_exceptions.md R322).
Rests on log 2. -/
def Obligations.RtiUndoesAnInterruptEntry : Prop :=
  ∀ (s u : State) (vector : Word) (b : Bool) (ret : Word), s.mem.wf → StackIsRam s →
    u.sp = (s.interrupt vector b ret).sp →
    (∀ d ∈ [(1 : Byte), 2, 3], u.read .stack (stackAddr (u.sp + d)) =
      (s.interrupt vector b ret).read .stack (stackAddr (u.sp + d))) →
    ∃ t, exec .rti u = .next t ∧ t.pc = ret ∧ t.p = s.p ∧ t.sp = s.sp ∧ t.a = u.a ∧ t.x = u.x ∧ t.y = u.y ∧
      t.mem = u.mem

/-- A halted CPU stays as it is, over any number of steps, as long as the environment never drives /RESET LOW: only
RESET ends the halt (60_exceptions.md R320, R335, 44_illegal_opcodes.md R270).
Rests on log 18. -/
def Obligations.HaltedCpuStaysAsItIsUntilReset : Prop :=
  ∀ (k : Nat) (s t : State), s.halted = true → s.lines.reset = .high → NoResetToCome s →
    steps k s = .next t →
    t.halted = true ∧ t.a = s.a ∧ t.x = s.x ∧ t.y = s.y ∧ t.sp = s.sp ∧ t.pc = s.pc ∧ t.p = s.p ∧ t.mem = s.mem

/-! ## Rules over all instructions -/

/-- No instruction faults, and none is refused but ROR on a part that lacks it (60_exceptions.md R301,
42_rotate_shift.md R185).
Rests on logs 28 and 29. -/
def Obligations.EveryInstructionCompletes : Prop :=
  ∀ (i : Instr) (s : State),
    (i.wellFormed s.cfg = true → Completes (exec i s)) ∧
    (i.wellFormed s.cfg = false → exec i s = .refused .rorAbsent)

/-- No instruction moves a line, the NMI latch, the pin changes to come, the counter or the parameters, and only KIL
halts the CPU (10_state.md R43, R44). -/
def Obligations.InstructionsLeaveTheSurroundings : Prop :=
  ∀ (i : Instr) (s t : State), exec i s = .next t →
    SameSurroundings s t ∧ t.halted = (s.halted || decide (mnemonicOf i = .KIL))

/-- Every instruction obeys its flag column: a flag marked `-` is not changed, one marked `0` is cleared, one marked `1`
is set (00_scope.md R7, 10_state.md R40). -/
def Obligations.InstructionsObeyTheirFlagColumns : Prop :=
  ∀ (i : Instr) (s t : State), exec i s = .next t →
    ∀ f ∈ [((flagColumn i).n, s.p.n, t.p.n), ((flagColumn i).z, s.p.z, t.p.z), ((flagColumn i).c, s.p.c, t.p.c),
        ((flagColumn i).i, s.p.i, t.p.i), ((flagColumn i).d, s.p.d, t.p.d), ((flagColumn i).v, s.p.v, t.p.v)],
      (f.1 = .kept → f.2.2 = f.2.1) ∧ (f.1 = .cleared → f.2.2 = false) ∧ (f.1 = .set → f.2.2 = true)

/-- A, X, Y and S are written by the instructions that 10_state.md R21, R22, R23 and R26 name and by no other. -/
def Obligations.RegistersAreWrittenByTheNamedInstructionsOnly : Prop :=
  ∀ (i : Instr) (s t : State), exec i s = .next t →
    (mnemonicOf i ∉ [.LDA, .TXA, .TYA, .PLA, .ADC, .SBC, .AND, .EOR, .ORA, .ASL, .LSR, .ROL, .ROR, .LAX, .SLO, .RLA,
        .SRE, .RRA, .ISC, .ANC, .ALR, .ARR, .XAA, .LAS] → t.a = s.a) ∧
    (mnemonicOf i ∈ [.ASL, .LSR, .ROL, .ROR] → addrFormOf s.cfg i ≠ none → t.a = s.a) ∧
    (mnemonicOf i ∉ [.LDX, .TAX, .TSX, .INX, .DEX, .LAX, .AXS, .LAS] → t.x = s.x) ∧
    (mnemonicOf i ∉ [.LDY, .TAY, .INY, .DEY] → t.y = s.y) ∧
    (mnemonicOf i ∉ [.TXS, .PHA, .PHP, .PLA, .PLP, .JSR, .RTS, .RTI, .BRK, .TAS, .LAS] → t.sp = s.sp)

/-- PC ends at `(a + L) mod 10000h` after every instruction that does not transfer control; KIL, after which PC is not
observable, apart (10_state.md R25).
Rests on log 5. -/
def Obligations.PcAdvancesByTheLength : Prop :=
  ∀ (i : Instr) (s t : State), exec i s = .next t →
    mnemonicOf i ∉ [.JMP, .JSR, .RTS, .RTI, .BRK, .KIL, .BPL, .BMI, .BVC, .BVS, .BCC, .BCS, .BNE, .BEQ] →
    t.pc.toNat = (s.pc.toNat + i.length) % 65536

/-- Where every instruction stores. An instruction that is none of the writers of 20_memory.md R68, or a shift of A, changes
no byte; a store or read-modify-write changes bytes at its effective address only; the unstable stores at their
effective address unless they cross a page; the pushes in the free bytes of the stack only.
Rests on logs 24 and 30. -/
def Obligations.InstructionsStoreOnlyWhereTheySay : Prop :=
  ∀ (i : Instr) (s t : State), exec i s = .next t →
    (mnemonicOf i ∉ [.STA, .STX, .STY, .SAX, .AHX, .SHY, .SHX, .TAS, .INC, .DEC, .ASL, .LSR, .ROL, .ROR, .SLO, .RLA,
        .SRE, .RRA, .DCP, .ISC, .PHA, .PHP, .JSR, .BRK] → SameBytesBut [] s t) ∧
    (mnemonicOf i ∈ [.ASL, .LSR, .ROL, .ROR] → addrFormOf s.cfg i = none → SameBytesBut [] s t) ∧
    (∀ f, addrFormOf s.cfg i = some f → mnemonicOf i ∈ [.STA, .STX, .STY, .SAX, .INC, .DEC, .ASL, .LSR, .ROL, .ROR,
        .SLO, .RLA, .SRE, .RRA, .DCP, .ISC] → SameBytesBut [f.ea s] s t) ∧
    (∀ f, addrFormOf s.cfg i = some f → mnemonicOf i ∈ [.AHX, .SHY, .SHX, .TAS] → f.crossesPage s = false →
      SameBytesBut [f.ea s] s t) ∧
    (mnemonicOf i ∈ [.PHA, .PHP] → SameBytesBut [stackAddr s.sp] s t) ∧
    (mnemonicOf i = .JSR → SameBytesBut [stackAddr s.sp, stackAddr (s.sp - 1)] s t) ∧
    (mnemonicOf i = .BRK → SameBytesBut [stackAddr s.sp, stackAddr (s.sp - 1), stackAddr (s.sp - 2)] s t)

/-! ## Operands, memory, the stack -/

/-- Operand values and reads, of every form: an immediate operand is its byte and reads nothing; an operand in memory is
the byte at the effective address, read after the pointer reads (00_scope.md R11, 20_memory.md R68, 30_encoding.md R96).
The effective addresses of the direct and indexed forms, as numbers: page 0 for the zero-page forms, modulo 10000h for
the absolute ones, with their lengths and no pointer read (30_encoding.md R97 to R102).
Rests on logs 3 and 5. -/
def Obligations.EffectiveAddressesOfDirectForms : Prop :=
  ∀ (s : State) (nn : Byte) (nnnn : Word),
    ((Operand.imm nn).value s = nn ∧ (Operand.imm nn).reads s = [] ∧ (Operand.imm nn).length = 2) ∧
    (∀ f : AddrForm,
      f.value s = s.read .data (f.ea s) ∧
      f.reads s = f.pointerReads s ++ [.rd (cellOf s.cfg (f.ea s)) (f.value s)] ∧
      (Operand.mem f).value s = f.value s ∧ (Operand.mem f).reads s = f.reads s ∧
      (Operand.mem f).length = f.length) ∧
    ((AddrForm.zp nn).ea s).toNat = nn.toNat ∧
    ((AddrForm.zpx nn).ea s).toNat = (nn.toNat + s.x.toNat) % 256 ∧
    ((AddrForm.zpy nn).ea s).toNat = (nn.toNat + s.y.toNat) % 256 ∧
    ((AddrForm.abs nnnn).ea s).toNat = nnnn.toNat ∧
    ((AddrForm.abx nnnn).ea s).toNat = (nnnn.toNat + s.x.toNat) % 65536 ∧
    ((AddrForm.aby nnnn).ea s).toNat = (nnnn.toNat + s.y.toNat) % 65536 ∧
    (∀ f ∈ [AddrForm.zp nn, .zpx nn, .zpy nn], f.length = 2 ∧ f.pointerReads s = []) ∧
    (∀ f ∈ [AddrForm.abs nnnn, .abx nnnn, .aby nnnn], f.length = 3 ∧ f.pointerReads s = [])

/-- The effective addresses of the two indirect forms, which are two bytes long: a pointer read low byte first, both bytes
in page 0, Y added modulo 10000h (30_encoding.md R103, R104). What their operand reads is then said for every form in
`EffectiveAddressesOfDirectForms`.
Rests on logs 1, 4 and 5. -/
def Obligations.EffectiveAddressesOfIndirectForms : Prop :=
  ∀ (s : State) (nn : Byte) (p q p' q' : Word),
    p.toNat = (nn.toNat + s.x.toNat) % 256 → q.toNat = (nn.toNat + s.x.toNat + 1) % 256 →
    p'.toNat = nn.toNat → q'.toNat = (nn.toNat + 1) % 256 →
    ((AddrForm.izx nn).ea s).toNat = (s.read .pointer p).toNat + 256 * (s.read .pointer q).toNat ∧
    (AddrForm.izx nn).pointerReads s = [s.rdOf .pointer p, s.rdOf .pointer q] ∧
    ((AddrForm.izy nn).ea s).toNat =
      ((s.read .pointer p').toNat + 256 * (s.read .pointer q').toNat + s.y.toNat) % 65536 ∧
    (AddrForm.izx nn).length = 2 ∧ (AddrForm.izy nn).length = 2 ∧
    (AddrForm.izy nn).pointerReads s = [s.rdOf .pointer p', s.rdOf .pointer q']

/-- Indexing crosses a page exactly when the high byte of the effective address is not that of the base
(70_reset_and_hazards.md R360). -/
def Obligations.CrossingAPageChangesTheHighByte : Prop :=
  ∀ (f : AddrForm) (s : State), f.crossesPage s = true ↔ hiByte (f.ea s) ≠ hiByte (f.base s)

/-- The location of an address is the address itself with 16 address lines, its low 13 bits with 13 (20_memory.md R60,
R67), and the location is all that memory, the memory map, a device and the bus see: two addresses of one location at
which the same kind of thing stands read alike, devices included. On a part with the on-chip port 0000h and 0001h are a
device; elsewhere the first region of the map that holds the location says what stands there, and where none does it is a
device (20_memory.md R66, 60_exceptions.md R332; the list of regions is the model's choice, log 10). A read gives the
latest byte written to its location, in RAM; a write to ROM or to a device changes no byte (20_memory.md R70; for ROM and
devices the model's choice, logs 11 and 12).
Rests on logs 10, 11, 12, 13 and 37. -/
def Obligations.ReadsSeeTheLatestWrite : Prop :=
  (∀ (cfg : Config) (a : Word),
    (cfg.addrLines = .sixteen → cellOf cfg a = a.toNat) ∧
    (cfg.addrLines = .thirteen → cellOf cfg a = a.toNat % 8192) ∧
    (cfg.ioPort = true → a.toNat < 2 → kindAt cfg a = .device) ∧
    (cfg.ioPort = false ∨ 2 ≤ a.toNat →
      ((∀ r ∈ cfg.memMap, ¬(r.base ≤ cellOf cfg a ∧ cellOf cfg a < r.base + r.size)) → kindAt cfg a = .device) ∧
      ∀ (before later : List Region) (r : Region), cfg.memMap = before ++ r :: later →
        (∀ q ∈ before, ¬(q.base ≤ cellOf cfg a ∧ cellOf cfg a < q.base + q.size)) →
        r.base ≤ cellOf cfg a → cellOf cfg a < r.base + r.size → kindAt cfg a = r.kind)) ∧
  ∀ (s : State) (a b : Word) (v : Byte) (k : AccessKind),
    (s.rdOf k a = .rd (cellOf s.cfg a) (s.read k a) ∧ s.wrOf a v = .wr (cellOf s.cfg a) v ∧
      s.write a v = { s with mem := s.memAfterWrite a v, bus := s.bus ++ [.wr (cellOf s.cfg a) v] }) ∧
    (cellOf s.cfg a = cellOf s.cfg b → kindAt s.cfg a = kindAt s.cfg b →
      s.read k a = s.read k b ∧ s.memAfterWrite a v = s.memAfterWrite b v) ∧
    (s.mem.wf →
      (kindAt s.cfg a = .ram → kindAt s.cfg b ≠ .device → cellOf s.cfg a = cellOf s.cfg b →
        (s.write a v).read k b = v) ∧
      (cellOf s.cfg a ≠ cellOf s.cfg b → (s.write a v).read k b = s.read k b) ∧
      (kindAt s.cfg a ≠ .ram → (s.write a v).read k b = s.read k b))

/-- A push stores at 0100h + S and lowers S, a pull raises S and reads there, both modulo 100h; with RAM there, a pull after
a push gives the byte back (10_state.md R26, R27, R28). -/
def Obligations.PullUndoesPush : Prop :=
  ∀ (s : State) (v : Byte),
    (stackAddr s.sp).toNat = 256 + s.sp.toNat ∧
    (s.push v).sp.toNat = (s.sp.toNat + 255) % 256 ∧
    (s.push v).mem = s.memAfterWrite (stackAddr s.sp) v ∧ SameBytesBut [stackAddr s.sp] s (s.push v) ∧
    s.afterPull.sp.toNat = (s.sp.toNat + 1) % 256 ∧ s.pulled = s.read .stack (stackAddr (s.sp + 1)) ∧
    (s.push v).afterPull.sp = s.sp ∧
    (s.mem.wf → kindAt s.cfg (stackAddr s.sp) = .ram →
      (s.push v).read .stack (stackAddr s.sp) = v ∧ (s.push v).pulled = v)

/-- The pushed status byte, bit by bit, and that loading it back gives the flags (10_state.md R38, R39). -/
def Obligations.PushedStatusByteHoldsTheFlags : Prop :=
  ∀ (f : Flags) (b : Bool),
    ((f.pByte b).getLsbD 7 = f.n ∧ (f.pByte b).getLsbD 6 = f.v ∧ (f.pByte b).getLsbD 5 = true ∧
      (f.pByte b).getLsbD 4 = b ∧ (f.pByte b).getLsbD 3 = f.d ∧ (f.pByte b).getLsbD 2 = f.i ∧
      (f.pByte b).getLsbD 1 = f.z ∧ (f.pByte b).getLsbD 0 = f.c) ∧
    ∀ v : Byte,
      Flags.ofByte v = { n := v.getLsbD 7, v := v.getLsbD 6, d := v.getLsbD 3, i := v.getLsbD 2, z := v.getLsbD 1,
                         c := v.getLsbD 0 } ∧
      Flags.ofByte (f.pByte b) = f

/-! ## Transfers, loads, stores, push and pull -/

/-- TAY, TAX, TSX, TYA, TXA copy a register and set N and Z from it; TXS copies X to S and sets no flag
(40_transfers.md R131 to R136). -/
def Obligations.TransfersCopyARegister : Prop :=
  ∀ s : State,
    let nz : Byte → Flags := fun v => { s.p with n := v.getLsbD 7, z := decide (v = 0) }
    exec .tay s = .next { s with y := s.a, p := nz s.a, pc := s.pc + 1 } ∧
    exec .tax s = .next { s with x := s.a, p := nz s.a, pc := s.pc + 1 } ∧
    exec .tsx s = .next { s with x := s.sp, p := nz s.sp, pc := s.pc + 1 } ∧
    exec .tya s = .next { s with a := s.y, p := nz s.y, pc := s.pc + 1 } ∧
    exec .txa s = .next { s with a := s.x, p := nz s.x, pc := s.pc + 1 } ∧
    exec .txs s = .next { s with sp := s.x, pc := s.pc + 1 }

/-- LDA, LDX, LDY in every form put the operand in the register and set N and Z from it (40_transfers.md R137 to
R139). -/
def Obligations.LoadsPutTheOperandInTheRegister : Prop :=
  ∀ (s : State) (nn : Byte) (nnnn : Word),
    let nz : Byte → Flags := fun v => { s.p with n := v.getLsbD 7, z := decide (v = 0) }
    (∀ f ∈ eightForms .ldaImm .ldaZp .ldaZpx .ldaIzx .ldaIzy .ldaAbs .ldaAbx .ldaAby nn nnnn,
      exec f.1 s = .next
        { s with a := f.2.value s, p := nz (f.2.value s), pc := s.pcAfter f.1, bus := s.bus ++ f.2.reads s }) ∧
    (∀ f ∈ [(Instr.ldxImm nn, Operand.imm nn), (.ldxZp nn, .mem (.zp nn)), (.ldxZpy nn, .mem (.zpy nn)),
        (.ldxAbs nnnn, .mem (.abs nnnn)), (.ldxAby nnnn, .mem (.aby nnnn))],
      exec f.1 s = .next
        { s with x := f.2.value s, p := nz (f.2.value s), pc := s.pcAfter f.1, bus := s.bus ++ f.2.reads s }) ∧
    (∀ f ∈ [(Instr.ldyImm nn, Operand.imm nn), (.ldyZp nn, .mem (.zp nn)), (.ldyZpx nn, .mem (.zpx nn)),
        (.ldyAbs nnnn, .mem (.abs nnnn)), (.ldyAbx nnnn, .mem (.abx nnnn))],
      exec f.1 s = .next
        { s with y := f.2.value s, p := nz (f.2.value s), pc := s.pcAfter f.1, bus := s.bus ++ f.2.reads s })

/-- STA, STX, STY and SAX in every form write the register, or A AND X, at the effective address and change nothing else:
no flag, no register, no other byte (40_transfers.md R140 to R142, 44_illegal_opcodes.md R231). -/
def Obligations.StoresWriteTheEffectiveAddressOnly : Prop :=
  ∀ (s : State) (nn : Byte) (nnnn : Word),
    ∀ f ∈ (sevenForms .staZp .staZpx .staIzx .staIzy .staAbs .staAbx .staAby nn nnnn).map (fun g => (g.1, g.2, s.a)) ++
        [(.stxZp nn, .zp nn, s.x), (.stxZpy nn, .zpy nn, s.x), (.stxAbs nnnn, .abs nnnn, s.x),
          (.styZp nn, .zp nn, s.y), (.styZpx nn, .zpx nn, s.y), (.styAbs nnnn, .abs nnnn, s.y),
          (.saxZp nn, .zp nn, s.a &&& s.x), (.saxZpy nn, .zpy nn, s.a &&& s.x),
          (.saxAbs nnnn, .abs nnnn, s.a &&& s.x), (.saxIzx nn, .izx nn, s.a &&& s.x)],
      ∃ t, exec f.1 s = .next t ∧
        t = { s with
              mem := s.memAfterWrite (f.2.1.ea s) f.2.2
              pc := s.pcAfter f.1
              bus := s.bus ++ f.2.1.pointerReads s ++ [s.wrOf (f.2.1.ea s) f.2.2] } ∧
        SameBytesBut [f.2.1.ea s] s t ∧
        (s.mem.wf → kindAt s.cfg (f.2.1.ea s) = .ram → ∀ k, t.read k (f.2.1.ea s) = f.2.2)

/-- PHA and PHP push A and the status byte with B and bit 5 set; PLA and PLP pull A, with N and Z, and all six flags
(40_transfers.md R143 to R146).
Rests on logs 17 and 20. -/
def Obligations.PushAndPullInstructions : Prop :=
  ∀ s : State,
    let top := stackAddr (s.sp + 1)
    let v := s.read .stack top
    exec .pha s = .next
      { s with
        mem := s.memAfterWrite (stackAddr s.sp) s.a, sp := s.sp - 1, pc := s.pc + 1
        bus := s.bus ++ [s.wrOf (stackAddr s.sp) s.a] } ∧
    exec .php s = .next
      { s with
        mem := s.memAfterWrite (stackAddr s.sp) (s.p.pByte true), sp := s.sp - 1, pc := s.pc + 1
        bus := s.bus ++ [s.wrOf (stackAddr s.sp) (s.p.pByte true)] } ∧
    exec .pla s = .next
      { s with
        a := v, p := { s.p with n := v.getLsbD 7, z := decide (v = 0) }, sp := s.sp + 1, pc := s.pc + 1
        bus := s.bus ++ [s.rdOf .stack top] } ∧
    exec .plp s = .next
      { s with
        p := { n := v.getLsbD 7, v := v.getLsbD 6, d := v.getLsbD 3, i := v.getLsbD 2, z := v.getLsbD 1,
               c := v.getLsbD 0 }
        lateI := some s.p.i, sp := s.sp + 1, pc := s.pc + 1, bus := s.bus ++ [s.rdOf .stack top] } ∧
    (∀ t, exec .pha s = .next t ∨ exec .php s = .next t → SameBytesBut [stackAddr s.sp] s t)

/-! ## Arithmetic and logic -/

/-- ADC in every form, in binary (D = 0, or a part without decimal mode): A is the sum modulo 100h, C says it passed FFh,
V that the signed sum left -128..127, N and Z are of the result (41_arithmetic_logical.md R151, R152). -/
def Obligations.AdcAddsInBinary : Prop :=
  ∀ (s : State) (nn : Byte) (nnnn : Word), s.p.d = false ∨ s.cfg.decimal = .ignored →
    ∀ f ∈ eightForms .adcImm .adcZp .adcZpx .adcIzx .adcIzy .adcAbs .adcAbx .adcAby nn nnnn,
      ∃ (r : Byte) (c v : Bool),
        exec f.1 s = .next
          { s with
            a := r, p := { s.p with n := r.getLsbD 7, z := decide (r = 0), c := c, v := v }
            pc := s.pcAfter f.1, bus := s.bus ++ f.2.reads s } ∧
        r.toNat = (s.a.toNat + (f.2.value s).toNat + s.p.c.toNat) % 256 ∧
        (c = true ↔ 255 < s.a.toNat + (f.2.value s).toNat + s.p.c.toNat) ∧
        (v = true ↔ s.a.toInt + (f.2.value s).toInt + s.p.c.toNat < -128 ∨
          127 < s.a.toInt + (f.2.value s).toInt + s.p.c.toNat)

/-- SBC in every form, the illegal EB among them, in binary: A is the difference with borrow modulo 100h, C says nothing
was borrowed, V that the signed difference left -128..127 (41_arithmetic_logical.md R153, R154, 44_illegal_opcodes.md
R262).
Rests on log 26. -/
def Obligations.SbcSubtractsInBinary : Prop :=
  ∀ (s : State) (nn : Byte) (nnnn : Word), s.p.d = false ∨ s.cfg.decimal = .ignored →
    ∀ f ∈ eightForms .sbcImm .sbcZp .sbcZpx .sbcIzx .sbcIzy .sbcAbs .sbcAbx .sbcAby nn nnnn ++
        [(.sbcImmEB nn, .imm nn)],
      ∃ (r : Byte) (c v : Bool),
        exec f.1 s = .next
          { s with
            a := r, p := { s.p with n := r.getLsbD 7, z := decide (r = 0), c := c, v := v }
            pc := s.pcAfter f.1, bus := s.bus ++ f.2.reads s } ∧
        (r.toNat : Int) = ((s.a.toNat : Int) - (f.2.value s).toNat - (1 - s.p.c.toNat)) % 256 ∧
        (c = true ↔ 0 ≤ (s.a.toNat : Int) - (f.2.value s).toNat - (1 - s.p.c.toNat)) ∧
        (v = true ↔ s.a.toInt - (f.2.value s).toInt - (1 - s.p.c.toNat) < -128 ∨
          127 < s.a.toInt - (f.2.value s).toInt - (1 - s.p.c.toNat))

/-- Subtracting is adding the complement: same result, carry and overflow (41_arithmetic_logical.md R153). -/
def Obligations.SubtractionIsAdditionOfTheComplement : Prop :=
  ∀ (a m : Byte) (c : Bool), subBinary a m c = addBinary a (m ^^^ 0xFF) c

/-- ADC in decimal mode, every form: with decimal digits A and C are the decimal sum; N, V and Z, and with a digit above 9
all of A, C, N, V, Z, are whatever they are; nothing else changes (41_arithmetic_logical.md R169).
Rests on log 21. -/
def Obligations.AdcAddsInDecimal : Prop :=
  ∀ (s : State) (nn : Byte) (nnnn : Word), s.p.d = true → s.cfg.decimal = .supported →
    ∀ f ∈ eightForms .adcImm .adcZp .adcZpx .adcIzx .adcIzy .adcAbs .adcAbx .adcAby nn nnnn,
      ∃ (r : Byte) (c n v z : Bool),
        exec f.1 s = .next
          { s with
            a := r, p := { s.p with n := n, z := z, c := c, v := v }
            pc := s.pcAfter f.1, bus := s.bus ++ f.2.reads s } ∧
        ∀ x1 x0 y1 y0 : Nat, x1 ≤ 9 → x0 ≤ 9 → y1 ≤ 9 → y0 ≤ 9 →
          s.a.toNat = 16 * x1 + x0 → (f.2.value s).toNat = 16 * y1 + y0 →
          r.toNat / 16 * 10 + r.toNat % 16 = (10 * x1 + x0 + (10 * y1 + y0) + s.p.c.toNat) % 100 ∧
          r.toNat / 16 ≤ 9 ∧ r.toNat % 16 ≤ 9 ∧
          (c = true ↔ 100 ≤ 10 * x1 + x0 + (10 * y1 + y0) + s.p.c.toNat)

/-- SBC in decimal mode, every form, as ADC in decimal mode (41_arithmetic_logical.md R170).
Rests on logs 21 and 26. -/
def Obligations.SbcSubtractsInDecimal : Prop :=
  ∀ (s : State) (nn : Byte) (nnnn : Word), s.p.d = true → s.cfg.decimal = .supported →
    ∀ f ∈ eightForms .sbcImm .sbcZp .sbcZpx .sbcIzx .sbcIzy .sbcAbs .sbcAbx .sbcAby nn nnnn ++
        [(.sbcImmEB nn, .imm nn)],
      ∃ (r : Byte) (c n v z : Bool),
        exec f.1 s = .next
          { s with
            a := r, p := { s.p with n := n, z := z, c := c, v := v }
            pc := s.pcAfter f.1, bus := s.bus ++ f.2.reads s } ∧
        ∀ x1 x0 y1 y0 : Nat, x1 ≤ 9 → x0 ≤ 9 → y1 ≤ 9 → y0 ≤ 9 →
          s.a.toNat = 16 * x1 + x0 → (f.2.value s).toNat = 16 * y1 + y0 →
          (r.toNat / 16 * 10 + r.toNat % 16 : Int) =
            ((10 * x1 + x0 : Int) - (10 * y1 + y0) - (1 - s.p.c.toNat)) % 100 ∧
          r.toNat / 16 ≤ 9 ∧ r.toNat % 16 ≤ 9 ∧
          (c = true ↔ 0 ≤ (10 * x1 + x0 : Int) - (10 * y1 + y0) - (1 - s.p.c.toNat))

/-- AND, EOR and ORA in every form: A is the bitwise result, N and Z are of it (41_arithmetic_logical.md R155, R156,
R157). -/
def Obligations.LogicalOperationsOnA : Prop :=
  ∀ (s : State) (nn : Byte) (nnnn : Word),
    let after : Instr × Operand → Byte → State := fun f r =>
      { s with
        a := r, p := { s.p with n := r.getLsbD 7, z := decide (r = 0) }
        pc := s.pcAfter f.1, bus := s.bus ++ f.2.reads s }
    (∀ f ∈ eightForms .andImm .andZp .andZpx .andIzx .andIzy .andAbs .andAbx .andAby nn nnnn,
      exec f.1 s = .next (after f (s.a &&& f.2.value s))) ∧
    (∀ f ∈ eightForms .eorImm .eorZp .eorZpx .eorIzx .eorIzy .eorAbs .eorAbx .eorAby nn nnnn,
      exec f.1 s = .next (after f (s.a ^^^ f.2.value s))) ∧
    (∀ f ∈ eightForms .oraImm .oraZp .oraZpx .oraIzx .oraIzy .oraAbs .oraAbx .oraAby nn nnnn,
      exec f.1 s = .next (after f (s.a ||| f.2.value s)))

/-- CMP, CPX and CPY in every form: C is the unsigned "register at least operand", Z is equality, N is bit 7 of the 8-bit
difference. BIT in both forms: Z from A AND m, N and V from bits 7 and 6 of m. No register, no other flag and no byte
changes (41_arithmetic_logical.md R158 to R162). -/
def Obligations.ComparesAndBitSetFlagsOnly : Prop :=
  ∀ (s : State) (nn : Byte) (nnnn : Word),
    (∀ f ∈ (eightForms .cmpImm .cmpZp .cmpZpx .cmpIzx .cmpIzy .cmpAbs .cmpAbx .cmpAby nn nnnn).map
          (fun g => (g.1, g.2, s.a)) ++
        [(.cpxImm nn, .imm nn, s.x), (.cpxZp nn, .mem (.zp nn), s.x), (.cpxAbs nnnn, .mem (.abs nnnn), s.x),
          (.cpyImm nn, .imm nn, s.y), (.cpyZp nn, .mem (.zp nn), s.y), (.cpyAbs nnnn, .mem (.abs nnnn), s.y)],
      ∃ n z c : Bool,
        exec f.1 s = .next
          { s with
            p := { s.p with n := n, z := z, c := c }, pc := s.pcAfter f.1, bus := s.bus ++ f.2.1.reads s } ∧
        (c = true ↔ (f.2.1.value s).toNat ≤ f.2.2.toNat) ∧ (z = true ↔ f.2.2 = f.2.1.value s) ∧
        (n = true ↔ 128 ≤ (f.2.2.toNat + 256 - (f.2.1.value s).toNat) % 256)) ∧
    ∀ f ∈ [(Instr.bitZp nn, AddrForm.zp nn), (.bitAbs nnnn, .abs nnnn)],
      exec f.1 s = .next
        { s with
          p := { s.p with
                 n := (f.2.value s).getLsbD 7, v := (f.2.value s).getLsbD 6
                 z := decide (s.a &&& f.2.value s = 0) }
          pc := s.pcAfter f.1, bus := s.bus ++ f.2.reads s }

/-- INC and DEC in every form: the byte at the effective address goes up or down by one modulo 100h, read once and written
once. INX, INY, DEX, DEY: so does the register. N and Z are of the result, C and V stay (41_arithmetic_logical.md R163 to
R168). -/
def Obligations.IncrementsAndDecrementsStepByOne : Prop :=
  ∀ (s : State) (nn : Byte) (nnnn : Word),
    (∀ f ∈ (fourForms .incZp .incZpx .incAbs .incAbx nn nnnn).map (fun g => (g.1, g.2, 1)) ++
        (fourForms .decZp .decZpx .decAbs .decAbx nn nnnn).map (fun g => (g.1, g.2, 255)),
      ∃ (r : Byte) (t : State),
        exec f.1 s = .next t ∧ r.toNat = ((f.2.1.value s).toNat + f.2.2) % 256 ∧
        t = { s with
              mem := s.memAfterWrite (f.2.1.ea s) r
              p := { s.p with n := r.getLsbD 7, z := decide (r = 0) }
              pc := s.pcAfter f.1
              bus := s.bus ++ f.2.1.reads s ++ [s.wrOf (f.2.1.ea s) r] } ∧
        SameBytesBut [f.2.1.ea s] s t) ∧
    ∃ x1 y1 x2 y2 : Byte,
      x1.toNat = (s.x.toNat + 1) % 256 ∧ y1.toNat = (s.y.toNat + 1) % 256 ∧
      x2.toNat = (s.x.toNat + 255) % 256 ∧ y2.toNat = (s.y.toNat + 255) % 256 ∧
      exec .inx s = .next
        { s with x := x1, p := { s.p with n := x1.getLsbD 7, z := decide (x1 = 0) }, pc := s.pc + 1 } ∧
      exec .iny s = .next
        { s with y := y1, p := { s.p with n := y1.getLsbD 7, z := decide (y1 = 0) }, pc := s.pc + 1 } ∧
      exec .dex s = .next
        { s with x := x2, p := { s.p with n := x2.getLsbD 7, z := decide (x2 = 0) }, pc := s.pc + 1 } ∧
      exec .dey s = .next
        { s with y := y2, p := { s.p with n := y2.getLsbD 7, z := decide (y2 = 0) }, pc := s.pc + 1 }

/-! ## Shifts and rotates -/

/-- The four one-bit operations on numbers: the 8-bit result and the bit that goes to C (42_rotate_shift.md R180).
Rests on log 39. -/
def Obligations.OneBitOperations : Prop :=
  ∀ (v : Byte) (c : Bool),
    ((shl v c).value.toNat = 2 * v.toNat % 256 ∧ ((shl v c).carry = true ↔ 128 ≤ v.toNat)) ∧
    ((shr v c).value.toNat = v.toNat / 2 ∧ ((shr v c).carry = true ↔ v.toNat % 2 = 1)) ∧
    ((rcl v c).value.toNat = (2 * v.toNat + c.toNat) % 256 ∧ ((rcl v c).carry = true ↔ 128 ≤ v.toNat)) ∧
    ((rcr v c).value.toNat = 128 * c.toNat + v.toNat / 2 ∧ ((rcr v c).carry = true ↔ v.toNat % 2 = 1))

/-- ASL, LSR, ROL and, on a part that has it, ROR, in all five forms: the result goes to A, or to the byte at the
effective address, the bit shifted out to C, N and Z are of the result (42_rotate_shift.md R181 to R184, R186).
Rests on logs 28 and 39. -/
def Obligations.ShiftsAndRotates : Prop :=
  ∀ (s : State) (nn : Byte) (nnnn : Word),
    ∀ g ∈ [(Instr.aslAcc, fourForms .aslZp .aslZpx .aslAbs .aslAbx nn nnnn, shl),
        (.lsrAcc, fourForms .lsrZp .lsrZpx .lsrAbs .lsrAbx nn nnnn, shr),
        (.rolAcc, fourForms .rolZp .rolZpx .rolAbs .rolAbx nn nnnn, rcl),
        (.rorAcc, fourForms .rorZp .rorZpx .rorAbs .rorAbx nn nnnn, rcr)],
      (g.1 = .rorAcc → s.cfg.hasRor = true) →
      (∃ (r : Byte) (c : Bool), g.2.2 s.a s.p.c = { value := r, carry := c } ∧
        exec g.1 s = .next
          { s with
            a := r, p := { s.p with n := r.getLsbD 7, z := decide (r = 0), c := c }, pc := s.pc + 1 }) ∧
      ∀ f ∈ g.2.1, ∃ (r : Byte) (c : Bool) (t : State), g.2.2 (f.2.value s) s.p.c = { value := r, carry := c } ∧
        exec f.1 s = .next t ∧
        t = { s with
              mem := s.memAfterWrite (f.2.ea s) r
              p := { s.p with n := r.getLsbD 7, z := decide (r = 0), c := c }
              pc := s.pcAfter f.1
              bus := s.bus ++ f.2.reads s ++ [s.wrOf (f.2.ea s) r] } ∧
        SameBytesBut [f.2.ea s] s t

/-- Nine ROLs of A, and on a part that has it nine RORs, restore A and C (42_rotate_shift.md R183).
Rests on log 39. -/
def Obligations.NineRotatesRestoreAAndC : Prop :=
  ∀ s : State,
    (∃ t, execTimes .rolAcc 9 s = .next t ∧ t.a = s.a ∧ t.p.c = s.p.c) ∧
    (s.cfg.hasRor = true → ∃ t, execTimes .rorAcc 9 s = .next t ∧ t.a = s.a ∧ t.p.c = s.p.c)

/-! ## Jumps, branches, flags -/

/-- JMP in both forms: to the operand, or to the word at it, whose high byte is taken from the page of the low byte
(43_jump_control.md R191, R192).
Rests on log 1. -/
def Obligations.JumpsLoadPc : Prop :=
  ∀ (s : State) (nnnn hi : Word),
    hi.toNat = nnnn.toNat / 256 * 256 + (nnnn.toNat + 1) % 256 →
    exec (.jmpAbs nnnn) s = .next { s with pc := nnnn } ∧
    exec (.jmpInd nnnn) s = .next
      { s with
        pc := wordOf (s.read .pointer nnnn) (s.read .pointer hi)
        bus := s.bus ++ [s.rdOf .pointer nnnn, s.rdOf .pointer hi] }

/-- JSR pushes the address of its own last byte, high byte first, and jumps; RTS pulls a word, low byte first, and goes to
the address after it (43_jump_control.md R193, R194).
Rests on log 2. -/
def Obligations.JsrAndRtsUseTheStack : Prop :=
  ∀ (s : State) (nnnn : Word),
    (∃ t, exec (.jsr nnnn) s = .next t ∧
      t = { s with
            mem := t.mem, sp := s.sp - 2, pc := nnnn
            bus := s.bus ++
              [s.wrOf (stackAddr s.sp) (hiByte (s.pc + 2)), s.wrOf (stackAddr (s.sp - 1)) (loByte (s.pc + 2))] } ∧
      SameBytesBut [stackAddr s.sp, stackAddr (s.sp - 1)] s t ∧
      (s.mem.wf → StackIsRam s → ∀ k,
        t.read k (stackAddr s.sp) = hiByte (s.pc + 2) ∧ t.read k (stackAddr (s.sp - 1)) = loByte (s.pc + 2))) ∧
    exec .rts s = .next
      { s with
        pc := wordOf (s.read .stack (stackAddr (s.sp + 1))) (s.read .stack (stackAddr (s.sp + 2))) + 1
        sp := s.sp + 2
        bus := s.bus ++
          [s.rdOf .stack (stackAddr (s.sp + 1)), s.rdOf .stack (stackAddr (s.sp + 2))] }

/-- A subroutine that leaves S and its return address alone comes back to the instruction after the JSR
(43_jump_control.md R193, R194).
Rests on log 2. -/
def Obligations.RtsComesBackAfterTheJsr : Prop :=
  ∀ (s t u : State) (nnnn : Word), s.mem.wf → StackIsRam s → exec (.jsr nnnn) s = .next t → u.sp = t.sp →
    (∀ d ∈ [(1 : Byte), 2], u.read .stack (stackAddr (u.sp + d)) = t.read .stack (stackAddr (u.sp + d))) →
    ∃ r, exec .rts u = .next r ∧ r.pc = s.pc + 3 ∧ r.sp = s.sp ∧ r.a = u.a ∧ r.x = u.x ∧ r.y = u.y ∧ r.p = u.p ∧
      r.mem = u.mem

/-- The eight branches: to `a + 2 + dd` when the flag is as named, else to `a + 2`; nothing else changes
(43_jump_control.md R196 to R204).
Rests on log 5. -/
def Obligations.BranchesTestOneFlag : Prop :=
  ∀ (s : State) (dd : Byte),
    ∀ f ∈ [(Instr.bpl dd, s.p.n, false), (.bmi dd, s.p.n, true), (.bvc dd, s.p.v, false), (.bvs dd, s.p.v, true),
        (.bcc dd, s.p.c, false), (.bcs dd, s.p.c, true), (.bne dd, s.p.z, false), (.beq dd, s.p.z, true)],
      ∃ target : Word, (target.toNat : Int) = ((s.pc.toNat : Int) + 2 + dd.toInt) % 65536 ∧
        exec f.1 s = .next { s with pc := if f.2.1 = f.2.2 then target else s.pc + 2 }

/-- The flag instructions change one flag each, NOP nothing (43_jump_control.md R212 to R219); CLI and SEI leave the old I
for the next boundary (60_exceptions.md R325).
Rests on log 17. -/
def Obligations.FlagInstructionsChangeOneFlag : Prop :=
  ∀ s : State,
    exec .clc s = .next { s with p := { s.p with c := false }, pc := s.pc + 1 } ∧
    exec .cli s = .next { s with p := { s.p with i := false }, pc := s.pc + 1, lateI := some s.p.i } ∧
    exec .cld s = .next { s with p := { s.p with d := false }, pc := s.pc + 1 } ∧
    exec .clv s = .next { s with p := { s.p with v := false }, pc := s.pc + 1 } ∧
    exec .sec s = .next { s with p := { s.p with c := true }, pc := s.pc + 1 } ∧
    exec .sei s = .next { s with p := { s.p with i := true }, pc := s.pc + 1, lateI := some s.p.i } ∧
    exec .sed s = .next { s with p := { s.p with d := true }, pc := s.pc + 1 } ∧
    exec .nop s = .next { s with pc := s.pc + 1 }

/-! ## Illegal opcodes -/

/-- SLO, RLA and SRE in every form: the byte at the effective address is shifted or rotated, the bit out goes to C, then
A takes OR, AND, XOR with the new byte, N and Z are of A (44_illegal_opcodes.md R234, R235, R236).
Rests on log 39. -/
def Obligations.ShiftThenLogicOpcodes : Prop :=
  ∀ (s : State) (nn : Byte) (nnnn : Word),
    let after : Instr × AddrForm → Byte → Byte → Bool → State := fun f m a c =>
      { s with
        a := a
        mem := s.memAfterWrite (f.2.ea s) m
        p := { s.p with n := a.getLsbD 7, z := decide (a = 0), c := c }
        pc := s.pcAfter f.1
        bus := s.bus ++ f.2.reads s ++ [s.wrOf (f.2.ea s) m] }
    (∀ f ∈ sevenForms .sloZp .sloZpx .sloIzx .sloIzy .sloAbs .sloAbx .sloAby nn nnnn,
      ∃ (m : Byte) (t : State), m.toNat = 2 * (f.2.value s).toNat % 256 ∧ exec f.1 s = .next t ∧
        t = after f m (s.a ||| m) ((f.2.value s).getLsbD 7) ∧ SameBytesBut [f.2.ea s] s t) ∧
    (∀ f ∈ sevenForms .rlaZp .rlaZpx .rlaIzx .rlaIzy .rlaAbs .rlaAbx .rlaAby nn nnnn,
      ∃ (m : Byte) (t : State), m.toNat = (2 * (f.2.value s).toNat + s.p.c.toNat) % 256 ∧ exec f.1 s = .next t ∧
        t = after f m (s.a &&& m) ((f.2.value s).getLsbD 7) ∧ SameBytesBut [f.2.ea s] s t) ∧
    (∀ f ∈ sevenForms .sreZp .sreZpx .sreIzx .sreIzy .sreAbs .sreAbx .sreAby nn nnnn,
      ∃ (m : Byte) (t : State), m.toNat = (f.2.value s).toNat / 2 ∧ exec f.1 s = .next t ∧
        t = after f m (s.a ^^^ m) ((f.2.value s).getLsbD 0) ∧ SameBytesBut [f.2.ea s] s t)

/-- RRA and ISC in every form: the byte is rotated right through C, or incremented, and written back; then A takes the full
ADC with the bit rotated out as carry in, or the full SBC (44_illegal_opcodes.md R237, R239). In binary A, C and V
are the sum's or the difference's; in decimal mode, where the digits of A and of the new byte are decimal, A and C are the
decimal sum or difference (41_arithmetic_logical.md R169, R170), N, V and Z are whatever they are, and with a digit above
9 A and C are too.
Rests on logs 21, 26 and 39. -/
def Obligations.ModifyThenArithmeticOpcodes : Prop :=
  ∀ (s : State) (nn : Byte) (nnnn : Word),
    let binary := s.p.d = false ∨ s.cfg.decimal = .ignored
    (∀ f ∈ sevenForms .rraZp .rraZpx .rraIzx .rraIzy .rraAbs .rraAbx .rraAby nn nnnn,
      ∃ (m r : Byte) (c v n z : Bool) (t : State),
        exec f.1 s = .next t ∧ m.toNat = 128 * s.p.c.toNat + (f.2.value s).toNat / 2 ∧
        t = { s with
              a := r
              mem := s.memAfterWrite (f.2.ea s) m
              p := { s.p with n := n, z := z, c := c, v := v }
              pc := s.pcAfter f.1
              bus := s.bus ++ f.2.reads s ++ [s.wrOf (f.2.ea s) m] } ∧
        SameBytesBut [f.2.ea s] s t ∧
        (binary →
          n = r.getLsbD 7 ∧ z = decide (r = 0) ∧
          r.toNat = (s.a.toNat + m.toNat + (f.2.value s).toNat % 2) % 256 ∧
          (c = true ↔ 255 < s.a.toNat + m.toNat + (f.2.value s).toNat % 2) ∧
          (v = true ↔ s.a.toInt + m.toInt + ((f.2.value s).toNat % 2 : Nat) < -128 ∨
            127 < s.a.toInt + m.toInt + ((f.2.value s).toNat % 2 : Nat))) ∧
        (s.p.d = true → s.cfg.decimal = .supported →
          ∀ x1 x0 y1 y0 : Nat, x1 ≤ 9 → x0 ≤ 9 → y1 ≤ 9 → y0 ≤ 9 →
            s.a.toNat = 16 * x1 + x0 → m.toNat = 16 * y1 + y0 →
            r.toNat / 16 * 10 + r.toNat % 16 = (10 * x1 + x0 + (10 * y1 + y0) + (f.2.value s).toNat % 2) % 100 ∧
            r.toNat / 16 ≤ 9 ∧ r.toNat % 16 ≤ 9 ∧
            (c = true ↔ 100 ≤ 10 * x1 + x0 + (10 * y1 + y0) + (f.2.value s).toNat % 2))) ∧
    (∀ f ∈ sevenForms .iscZp .iscZpx .iscIzx .iscIzy .iscAbs .iscAbx .iscAby nn nnnn,
      ∃ (m r : Byte) (c v n z : Bool) (t : State),
        exec f.1 s = .next t ∧ m.toNat = ((f.2.value s).toNat + 1) % 256 ∧
        t = { s with
              a := r
              mem := s.memAfterWrite (f.2.ea s) m
              p := { s.p with n := n, z := z, c := c, v := v }
              pc := s.pcAfter f.1
              bus := s.bus ++ f.2.reads s ++ [s.wrOf (f.2.ea s) m] } ∧
        SameBytesBut [f.2.ea s] s t ∧
        (binary →
          n = r.getLsbD 7 ∧ z = decide (r = 0) ∧
          (r.toNat : Int) = ((s.a.toNat : Int) - m.toNat - (1 - s.p.c.toNat)) % 256 ∧
          (c = true ↔ 0 ≤ (s.a.toNat : Int) - m.toNat - (1 - s.p.c.toNat)) ∧
          (v = true ↔ s.a.toInt - m.toInt - (1 - s.p.c.toNat) < -128 ∨
            127 < s.a.toInt - m.toInt - (1 - s.p.c.toNat))) ∧
        (s.p.d = true → s.cfg.decimal = .supported →
          ∀ x1 x0 y1 y0 : Nat, x1 ≤ 9 → x0 ≤ 9 → y1 ≤ 9 → y0 ≤ 9 →
            s.a.toNat = 16 * x1 + x0 → m.toNat = 16 * y1 + y0 →
            (r.toNat / 16 * 10 + r.toNat % 16 : Int) =
              ((10 * x1 + x0 : Int) - (10 * y1 + y0) - (1 - s.p.c.toNat)) % 100 ∧
            r.toNat / 16 ≤ 9 ∧ r.toNat % 16 ≤ 9 ∧
            (c = true ↔ 0 ≤ (10 * x1 + x0 : Int) - (10 * y1 + y0) - (1 - s.p.c.toNat))))

/-- DCP in every form: the byte is decremented and written back, then A is compared with it; A stays
(44_illegal_opcodes.md R238). -/
def Obligations.DcpDecrementsThenCompares : Prop :=
  ∀ (s : State) (nn : Byte) (nnnn : Word),
    ∀ f ∈ sevenForms .dcpZp .dcpZpx .dcpIzx .dcpIzy .dcpAbs .dcpAbx .dcpAby nn nnnn,
      ∃ (m : Byte) (n z c : Bool) (t : State),
        exec f.1 s = .next t ∧ m.toNat = ((f.2.value s).toNat + 255) % 256 ∧
        t = { s with
              mem := s.memAfterWrite (f.2.ea s) m
              p := { s.p with n := n, z := z, c := c }
              pc := s.pcAfter f.1
              bus := s.bus ++ f.2.reads s ++ [s.wrOf (f.2.ea s) m] } ∧
        SameBytesBut [f.2.ea s] s t ∧
        (c = true ↔ m.toNat ≤ s.a.toNat) ∧ (z = true ↔ s.a = m) ∧
        (n = true ↔ 128 ≤ (s.a.toNat + 256 - m.toNat) % 256)

/-- LAX from memory in every form, opcode BF with the index register of the parameter, and LAS: one byte to A and X, and
for LAS, ANDed with S, to S too; N and Z are of it (44_illegal_opcodes.md R232, R267).
Rests on log 25. -/
def Obligations.LaxAndLasLoadSeveralRegisters : Prop :=
  ∀ (s : State) (nn : Byte) (nnnn : Word),
    (∀ f ∈ [(Instr.laxZp nn, AddrForm.zp nn), (.laxZpy nn, .zpy nn), (.laxAbs nnnn, .abs nnnn),
        (.laxAbx nnnn, if s.cfg.laxBfIndex = .x then .abx nnnn else .aby nnnn), (.laxIzx nn, .izx nn),
        (.laxIzy nn, .izy nn)],
      exec f.1 s = .next
        { s with
          a := f.2.value s, x := f.2.value s
          p := { s.p with n := (f.2.value s).getLsbD 7, z := decide (f.2.value s = 0) }
          pc := s.pcAfter f.1, bus := s.bus ++ f.2.reads s }) ∧
    ∀ r : Byte, r = (AddrForm.aby nnnn).value s &&& s.sp →
      exec (.las nnnn) s = .next
        { s with
          a := r, x := r, sp := r, p := { s.p with n := r.getLsbD 7, z := decide (r = 0) }
          pc := s.pc + 3, bus := s.bus ++ (AddrForm.aby nnnn).reads s }

/-- ANC (both opcodes), ALR, AXS and, in binary mode, ARR with its V open; in decimal mode ARR changes only A and the
flags C, V, N, Z; XAA and LAX #nn leave A (and X for LAX, the same byte), N and Z open and change nothing else
(44_illegal_opcodes.md R255, R256, R258 to R261; the direction of ALR's shift 90_conflicts.md C2, log 27).
Rests on logs 22, 23 and 27. -/
def Obligations.ImmediateIllegalOpcodes : Prop :=
  ∀ (s : State) (nn : Byte),
    let t := s.a &&& nn
    let u := s.a &&& s.x
    (∀ i ∈ [Instr.anc0B nn, .anc2B nn],
      exec i s = .next
        { s with
          a := t, p := { s.p with n := t.getLsbD 7, z := decide (t = 0), c := t.getLsbD 7 }, pc := s.pc + 2 }) ∧
    exec (.alr nn) s = .next
      { s with
        a := t >>> 1, p := { s.p with n := false, z := decide (t >>> 1 = 0), c := t.getLsbD 0 }, pc := s.pc + 2 } ∧
    exec (.axs nn) s = .next
      { s with
        x := u - nn, p := { s.p with n := (u - nn).getLsbD 7, z := decide (u = nn), c := decide (nn.toNat ≤ u.toNat) }
        pc := s.pc + 2 } ∧
    (s.p.d = false ∨ s.cfg.decimal = .ignored →
      ∃ (r : Byte) (v : Bool), r.toNat = 128 * s.p.c.toNat + t.toNat / 2 ∧
        exec (.arr nn) s = .next
          { s with
            a := r, p := { s.p with n := s.p.c, z := decide (r = 0), c := t.getLsbD 7, v := v }, pc := s.pc + 2 }) ∧
    (∃ (r : Byte) (n z c v : Bool),
      exec (.arr nn) s = .next
        { s with a := r, p := { s.p with n := n, z := z, c := c, v := v }, pc := s.pc + 2 }) ∧
    (∃ (r : Byte) (n z : Bool),
      exec (.xaa nn) s = .next { s with a := r, p := { s.p with n := n, z := z }, pc := s.pc + 2 }) ∧
    ∃ (r : Byte) (n z : Bool),
      exec (.laxImm nn) s = .next { s with a := r, x := r, p := { s.p with n := n, z := z }, pc := s.pc + 2 }

/-- AHX, SHY, SHX and TAS complete and write one byte, which is open; at the effective address unless indexing crosses a
page, and then anywhere; TAS also puts A AND X in S (44_illegal_opcodes.md R263 to R266).
Rests on log 24. -/
def Obligations.UnstableStoresWriteOneByte : Prop :=
  ∀ (s : State) (nn : Byte) (nnnn : Word),
    ∀ f ∈ [(Instr.ahxIzy nn, AddrForm.izy nn, s.sp), (.ahxAby nnnn, .aby nnnn, s.sp), (.shy nnnn, .abx nnnn, s.sp),
        (.shx nnnn, .aby nnnn, s.sp), (.tas nnnn, .aby nnnn, s.a &&& s.x)],
      ∃ (target : Word) (w : Byte) (t : State),
        exec f.1 s = .next t ∧
        t = { s with
              sp := f.2.2
              mem := s.memAfterWrite target w
              pc := s.pcAfter f.1
              bus := s.bus ++ f.2.1.pointerReads s ++ [s.wrOf target w] } ∧
        SameBytesBut [target] s t ∧
        (f.2.1.crossesPage s = false → target = f.2.1.ea s)

/-- The 27 illegal NOPs move PC past themselves; the forms with a memory operand read it; nothing else changes. The twelve
KIL opcodes complete by halting the CPU; no register, flag or byte changes (44_illegal_opcodes.md R268, R270).
Rests on log 18. -/
def Obligations.IllegalNopsOnlyFetchAndKilHalts : Prop :=
  ∀ (s : State) (nn : Byte) (nnnn : Word),
    (∀ i ∈ [Instr.nop1A, .nop3A, .nop5A, .nop7A, .nopDA, .nopFA], exec i s = .next { s with pc := s.pc + 1 }) ∧
    (∀ i ∈ [Instr.nopImm80 nn, .nopImm82 nn, .nopImm89 nn, .nopImmC2 nn, .nopImmE2 nn],
      exec i s = .next { s with pc := s.pc + 2 }) ∧
    (∀ f ∈ [(Instr.nopZp04 nn, AddrForm.zp nn), (.nopZp44 nn, .zp nn), (.nopZp64 nn, .zp nn),
        (.nopZpx14 nn, .zpx nn), (.nopZpx34 nn, .zpx nn), (.nopZpx54 nn, .zpx nn), (.nopZpx74 nn, .zpx nn),
        (.nopZpxD4 nn, .zpx nn), (.nopZpxF4 nn, .zpx nn), (.nopAbs0C nnnn, .abs nnnn),
        (.nopAbx1C nnnn, .abx nnnn), (.nopAbx3C nnnn, .abx nnnn), (.nopAbx5C nnnn, .abx nnnn),
        (.nopAbx7C nnnn, .abx nnnn), (.nopAbxDC nnnn, .abx nnnn), (.nopAbxFC nnnn, .abx nnnn)],
      exec f.1 s = .next
        { s with pc := s.pcAfter f.1, bus := s.bus ++ f.2.reads s }) ∧
    ∀ i ∈ [Instr.kil02, .kil12, .kil22, .kil32, .kil42, .kil52, .kil62, .kil72, .kil92, .kilB2, .kilD2, .kilF2],
      exec i s = .next { s with halted := true }

/-! ## Timing -/

/-- The cycles of a branch at `a`, as numbers, `target` being `(a + 2 + dd) mod 10000h`: 2 when not taken, 3 when `a + 2` and the target lie in one page, else 4
(70_reset_and_hazards.md R361). -/
def Obligations.BranchesTakeTwoToFourCycles : Prop :=
  ∀ (s : State) (dd : Byte),
    ((s.branchTarget dd).toNat : Int) = ((s.pc.toNat : Int) + 2 + dd.toInt) % 65536 ∧
    ∀ f ∈ [(Instr.bpl dd, s.p.n, false), (.bmi dd, s.p.n, true), (.bvc dd, s.p.v, false), (.bvs dd, s.p.v, true),
        (.bcc dd, s.p.c, false), (.bcs dd, s.p.c, true), (.bne dd, s.p.z, false), (.beq dd, s.p.z, true)],
      cycles f.1 s = some
        (if f.2.1 = f.2.2 then
          if (s.pc.toNat + 2) % 65536 / 256 = (s.branchTarget dd).toNat / 256 then 3 else 4
        else 2)
end

