-- ==== Sys2Proof/Laws/Flags.lean ====
section
/-! SUPPORT. What the byte-order helpers and the arithmetic of Machine/Flags.lean compute, said once in exact numbers. -/

namespace Sys2Proof.Machine

/-! ## Words and bytes -/

/-- A word as a number: low byte plus 256 times high byte (20_memory.md R63). -/
theorem wordOf_toNat (lo hi : Byte) : (wordOf lo hi).toNat = lo.toNat + 256 * hi.toNat := by
  have h := lo.isLt
  rw [wordOf, BitVec.toNat_append, ← Nat.shiftLeft_add_eq_or_of_lt h, Nat.shiftLeft_eq]
  omega

@[simp] theorem loByte_wordOf (lo hi : Byte) : loByte (wordOf lo hi) = lo := by
  apply BitVec.eq_of_toNat_eq
  have h := lo.isLt
  rw [loByte, BitVec.extractLsb'_toNat, wordOf_toNat]
  simp only [Nat.shiftRight_zero, Nat.reducePow]
  omega

@[simp] theorem hiByte_wordOf (lo hi : Byte) : hiByte (wordOf lo hi) = hi := by
  apply BitVec.eq_of_toNat_eq
  have h := lo.isLt
  have h' := hi.isLt
  rw [hiByte, BitVec.extractLsb'_toNat, wordOf_toNat]
  simp only [Nat.shiftRight_eq_div_pow, Nat.reducePow]
  omega

@[simp] theorem wordOf_halves (w : Word) : wordOf (loByte w) (hiByte w) = w := by
  apply BitVec.eq_of_toNat_eq
  have h := w.isLt
  rw [wordOf_toNat, loByte, hiByte, BitVec.extractLsb'_toNat, BitVec.extractLsb'_toNat]
  simp only [Nat.shiftRight_eq_div_pow, Nat.reducePow]
  omega

/-- Bit 7 of a byte is its sign. -/
theorem bit7_eq (v : Byte) : v.getLsbD 7 = decide (128 ≤ v.toNat) := by
  have h := v.isLt
  rw [BitVec.getLsbD, Nat.testBit_eq_decide_div_mod_eq, decide_eq_decide]
  simp only [Nat.reducePow]
  omega

/-! ## Binary addition and subtraction -/

/-- The sum of R151 in exact numbers: value, carry, signed overflow. -/
theorem addBinary_spec (a m : Byte) (c : Bool) :
    (addBinary a m c).value.toNat = (a.toNat + m.toNat + c.toNat) % 256 ∧
    ((addBinary a m c).carry = true ↔ 255 < a.toNat + m.toNat + c.toNat) ∧
    ((addBinary a m c).overflow = true ↔
      a.toInt + m.toInt + c.toNat < -128 ∨ 127 < a.toInt + m.toInt + c.toNat) := by
  have ha := a.isLt
  have hm := m.isLt
  have hc : c.toNat ≤ 1 := by cases c <;> decide
  refine ⟨by simp [addBinary], by simp [addBinary], ?_⟩
  simp only [addBinary, bit7_eq, BitVec.toInt, BitVec.toNat_ofNat, Bool.and_eq_true, beq_iff_eq, bne_iff_ne,
    decide_eq_decide, ne_eq]
  generalize a.toNat = x at *
  generalize m.toNat = y at *
  generalize c.toNat = z at *
  split <;> split <;> omega

/-- The difference of R153 in exact numbers: value, no borrow, signed overflow. -/
theorem subBinary_spec (a m : Byte) (c : Bool) :
    ((subBinary a m c).value.toNat : Int) = ((a.toNat : Int) - m.toNat - (1 - c.toNat)) % 256 ∧
    ((subBinary a m c).carry = true ↔ 0 ≤ (a.toNat : Int) - m.toNat - (1 - c.toNat)) ∧
    ((subBinary a m c).overflow = true ↔
      a.toInt - m.toInt - (1 - c.toNat) < -128 ∨ 127 < a.toInt - m.toInt - (1 - c.toNat)) := by
  have ha := a.isLt
  have hm := m.isLt
  have hc : c.toNat ≤ 1 := by cases c <;> decide
  refine ⟨by simp only [subBinary, BitVec.toNat_ofInt]; omega, by simp [subBinary], ?_⟩
  simp only [subBinary, bit7_eq, BitVec.toInt, BitVec.toNat_ofInt, Bool.and_eq_true, bne_iff_ne,
    decide_eq_decide, ne_eq]
  generalize a.toNat = x at *
  generalize m.toNat = y at *
  generalize c.toNat = z at *
  split <;> split <;> omega

/-! ## Decimal digits -/

/-- The two digits of a packed number below 100 (41_arithmetic_logical.md R169). -/
theorem bcdOf_digits : ∀ t < 100, (bcdOf t).toNat / 16 = t / 10 ∧ (bcdOf t).toNat % 16 = t % 10 := by decide

/-- The decimal sum of R169 in exact numbers, for four decimal digits. -/
theorem addDecimal_spec (a m : Byte) (c : Bool) (x1 x0 y1 y0 : Nat) (h1 : x1 ≤ 9) (h2 : x0 ≤ 9) (h3 : y1 ≤ 9)
    (h4 : y0 ≤ 9) (ha : a.toNat = 16 * x1 + x0) (hm : m.toNat = 16 * y1 + y0) :
    isBcd a = true ∧ isBcd m = true ∧
    (addDecimal a m c).value.toNat / 16 * 10 + (addDecimal a m c).value.toNat % 16 =
      (10 * x1 + x0 + (10 * y1 + y0) + c.toNat) % 100 ∧
    (addDecimal a m c).value.toNat / 16 ≤ 9 ∧ (addDecimal a m c).value.toNat % 16 ≤ 9 ∧
    ((addDecimal a m c).carry = true ↔ 100 ≤ 10 * x1 + x0 + (10 * y1 + y0) + c.toNat) := by
  have da : decOf a = 10 * x1 + x0 := by unfold decOf; omega
  have dm : decOf m = 10 * y1 + y0 := by unfold decOf; omega
  refine ⟨by simp [isBcd]; omega, by simp [isBcd]; omega, ?_⟩
  obtain ⟨q1, q2⟩ := bcdOf_digits ((10 * x1 + x0 + (10 * y1 + y0) + c.toNat) % 100) (by omega)
  simp only [addDecimal, da, dm, q1, q2, decide_eq_true_eq]
  clear ha hm da dm q1 q2
  generalize 10 * x1 + x0 + (10 * y1 + y0) + c.toNat = total
  exact ⟨by omega, by omega, by omega, trivial⟩

/-- The decimal difference of R170 in exact numbers, for four decimal digits. -/
theorem subDecimal_spec (a m : Byte) (c : Bool) (x1 x0 y1 y0 : Nat) (h1 : x1 ≤ 9) (h2 : x0 ≤ 9) (h3 : y1 ≤ 9)
    (h4 : y0 ≤ 9) (ha : a.toNat = 16 * x1 + x0) (hm : m.toNat = 16 * y1 + y0) :
    isBcd a = true ∧ isBcd m = true ∧
    ((subDecimal a m c).value.toNat / 16 * 10 + (subDecimal a m c).value.toNat % 16 : Int) =
      ((10 * x1 + x0 : Int) - (10 * y1 + y0) - (1 - c.toNat)) % 100 ∧
    (subDecimal a m c).value.toNat / 16 ≤ 9 ∧ (subDecimal a m c).value.toNat % 16 ≤ 9 ∧
    ((subDecimal a m c).carry = true ↔ 0 ≤ (10 * x1 + x0 : Int) - (10 * y1 + y0) - (1 - c.toNat)) := by
  have da : decOf a = 10 * x1 + x0 := by unfold decOf; omega
  have dm : decOf m = 10 * y1 + y0 := by unfold decOf; omega
  refine ⟨by simp [isBcd]; omega, by simp [isBcd]; omega, ?_⟩
  simp only [subDecimal, da, dm, Nat.cast_add, Nat.cast_mul, Nat.cast_ofNat, decide_eq_true_eq]
  clear ha hm da dm
  generalize (10 * x1 + x0 : Int) - (10 * y1 + y0) - (1 - c.toNat) = total
  obtain ⟨q1, q2⟩ := bcdOf_digits (total % 100).toNat (by omega)
  generalize (bcdOf (total % 100).toNat).toNat = w at q1 q2 ⊢
  exact ⟨by omega, by omega, by omega, trivial⟩

end Sys2Proof.Machine
end

