-- ==== Sys2Proof/Laws/Memory.lean ====
section
/-! SUPPORT. The laws of memory as data: a read after a write, and that a write keeps the canonical form. -/

namespace Sys2Proof.Machine

theorem Memory.read_nil (a : Nat) : Memory.read [] a = Memory.unlisted := rfl

/-- In canonical form a location below every listed one reads as unlisted. -/
theorem Memory.read_of_lt {m : Memory} {a : Nat} (h : ∀ q ∈ m, a < q.1) : Memory.read m a = Memory.unlisted := by
  induction m with
  | nil => rfl
  | cons q m ih =>
    have hq := h q (by simp)
    rw [Memory.read, if_neg (by omega)]
    exact ih fun r hr => h r (by simp [hr])

/-- The location written reads as the byte written. -/
theorem Memory.read_write_same {m : Memory} (h : m.wf) (a : Nat) (v : Byte) : (m.write a v).read a = v := by
  induction m with
  | nil =>
    by_cases hv : v = Memory.unlisted <;> simp [Memory.write, Memory.read, hv]
  | cons q m ih =>
    obtain ⟨b, w⟩ := q
    obtain ⟨hp, hn⟩ := h
    rw [List.pairwise_cons] at hp
    have hm : Memory.wf m := ⟨hp.2, fun c hc => hn c (by simp [hc])⟩
    unfold Memory.write
    split
    · next hab =>
      split
      · next hv =>
        rw [Memory.read, if_neg (by omega), hv]
        exact Memory.read_of_lt fun q hq => lt_trans hab (hp.1 q hq)
      · simp [Memory.read]
    · split
      · next hab =>
        split
        · next hv =>
          rw [hv, hab]
          exact Memory.read_of_lt hp.1
        · simp [Memory.read]
      · next hab =>
        rw [Memory.read, if_neg hab]
        exact ih hm

/-- Every other location reads as before. -/
theorem Memory.read_write_other (m : Memory) {a b : Nat} (v : Byte) (h : b ≠ a) :
    (m.write a v).read b = m.read b := by
  induction m with
  | nil =>
    unfold Memory.write
    split
    · rfl
    · simp [Memory.read, h]
  | cons q m ih =>
    obtain ⟨c, w⟩ := q
    unfold Memory.write
    split
    · split
      · rfl
      · rw [Memory.read, if_neg h]
    · split
      · next hac =>
        subst hac
        split <;> simp [Memory.read, h]
      · simp only [Memory.read, ih]

/-- The locations listed after a write were listed before, or are the one written. -/
theorem Memory.mem_write {m : Memory} {a : Nat} {v : Byte} {q : Host.Cell} (h : q ∈ m.write a v) :
    q ∈ m ∨ (q = (a, v) ∧ v ≠ Memory.unlisted) := by
  induction m with
  | nil =>
    unfold Memory.write at h
    split at h
    · simp at h
    · next hv => exact .inr ⟨by simpa using h, hv⟩
  | cons r m ih =>
    obtain ⟨b, w⟩ := r
    unfold Memory.write at h
    split at h
    · split at h
      · exact .inl h
      · next hv =>
        rcases List.mem_cons.1 h with h | h
        · exact .inr ⟨h, hv⟩
        · exact .inl h
    · split at h
      · split at h
        · exact .inl (by simp [h])
        · next hv =>
          rcases List.mem_cons.1 h with h | h
          · exact .inr ⟨h, hv⟩
          · exact .inl (by simp [h])
      · rcases List.mem_cons.1 h with h | h
        · exact .inl (by simp [h])
        · rcases ih h with h | h
          · exact .inl (by simp [h])
          · exact .inr h

/-- A write keeps the canonical form. -/
theorem Memory.wf_write {m : Memory} (h : m.wf) (a : Nat) (v : Byte) : (m.write a v).wf := by
  refine ⟨?_, fun c hc => ?_⟩
  · obtain ⟨hp, -⟩ := h
    induction m with
    | nil => unfold Memory.write; split <;> simp
    | cons r m ih =>
      obtain ⟨b, w⟩ := r
      rw [List.pairwise_cons] at hp
      unfold Memory.write
      split
      · next hab =>
        split
        · exact List.pairwise_cons.2 hp
        · refine List.pairwise_cons.2 ⟨fun q hq => ?_, List.pairwise_cons.2 hp⟩
          rcases List.mem_cons.1 hq with hq | hq
          · simpa [hq] using hab
          · exact lt_trans hab (hp.1 q hq)
      · split
        · next hab =>
          split
          · exact hp.2
          · exact List.pairwise_cons.2 ⟨fun q hq => by simpa [hab] using hp.1 q hq, hp.2⟩
        · refine List.pairwise_cons.2 ⟨fun q hq => ?_, ih hp.2⟩
          rcases Memory.mem_write hq with hq | ⟨rfl, -⟩
          · exact hp.1 q hq
          · simp only; omega
  · rcases Memory.mem_write hc with hc | ⟨rfl, hv⟩
    · exact h.2 c hc
    · exact hv

end Sys2Proof.Machine
end

