-- ==== Sys2Proof/Laws/State.lean ====
section
/-! SUPPORT. The field lemmas: for each update of the state and each field, what the field is after the update.
All true by rfl, all simp lemmas, so that no proof unfolds a record update. -/

namespace Sys2Proof.Machine

@[simp] theorem State.log_a (s : State) (l : List BusAccess) : (s.log l).a = s.a := rfl
@[simp] theorem State.log_x (s : State) (l : List BusAccess) : (s.log l).x = s.x := rfl
@[simp] theorem State.log_y (s : State) (l : List BusAccess) : (s.log l).y = s.y := rfl
@[simp] theorem State.log_sp (s : State) (l : List BusAccess) : (s.log l).sp = s.sp := rfl
@[simp] theorem State.log_pc (s : State) (l : List BusAccess) : (s.log l).pc = s.pc := rfl
@[simp] theorem State.log_p (s : State) (l : List BusAccess) : (s.log l).p = s.p := rfl
@[simp] theorem State.log_nmiPending (s : State) (l : List BusAccess) : (s.log l).nmiPending = s.nmiPending := rfl
@[simp] theorem State.log_halted (s : State) (l : List BusAccess) : (s.log l).halted = s.halted := rfl
@[simp] theorem State.log_mem (s : State) (l : List BusAccess) : (s.log l).mem = s.mem := rfl
@[simp] theorem State.log_lines (s : State) (l : List BusAccess) : (s.log l).lines = s.lines := rfl
@[simp] theorem State.log_inputs (s : State) (l : List BusAccess) : (s.log l).inputs = s.inputs := rfl
@[simp] theorem State.log_lateI (s : State) (l : List BusAccess) : (s.log l).lateI = s.lateI := rfl
@[simp] theorem State.log_tick (s : State) (l : List BusAccess) : (s.log l).tick = s.tick := rfl
@[simp] theorem State.log_bus (s : State) (l : List BusAccess) : (s.log l).bus = s.bus ++ l := rfl
@[simp] theorem State.log_cfg (s : State) (l : List BusAccess) : (s.log l).cfg = s.cfg := rfl

@[simp] theorem State.setP_a (s : State) (f : Flags) : (s.setP f).a = s.a := rfl
@[simp] theorem State.setP_x (s : State) (f : Flags) : (s.setP f).x = s.x := rfl
@[simp] theorem State.setP_y (s : State) (f : Flags) : (s.setP f).y = s.y := rfl
@[simp] theorem State.setP_sp (s : State) (f : Flags) : (s.setP f).sp = s.sp := rfl
@[simp] theorem State.setP_pc (s : State) (f : Flags) : (s.setP f).pc = s.pc := rfl
@[simp] theorem State.setP_p (s : State) (f : Flags) : (s.setP f).p = f := rfl
@[simp] theorem State.setP_nmiPending (s : State) (f : Flags) : (s.setP f).nmiPending = s.nmiPending := rfl
@[simp] theorem State.setP_halted (s : State) (f : Flags) : (s.setP f).halted = s.halted := rfl
@[simp] theorem State.setP_mem (s : State) (f : Flags) : (s.setP f).mem = s.mem := rfl
@[simp] theorem State.setP_lines (s : State) (f : Flags) : (s.setP f).lines = s.lines := rfl
@[simp] theorem State.setP_inputs (s : State) (f : Flags) : (s.setP f).inputs = s.inputs := rfl
@[simp] theorem State.setP_lateI (s : State) (f : Flags) : (s.setP f).lateI = s.lateI := rfl
@[simp] theorem State.setP_tick (s : State) (f : Flags) : (s.setP f).tick = s.tick := rfl
@[simp] theorem State.setP_bus (s : State) (f : Flags) : (s.setP f).bus = s.bus := rfl
@[simp] theorem State.setP_cfg (s : State) (f : Flags) : (s.setP f).cfg = s.cfg := rfl

@[simp] theorem State.setNZ_a (s : State) (v : Byte) : (s.setNZ v).a = s.a := rfl
@[simp] theorem State.setNZ_x (s : State) (v : Byte) : (s.setNZ v).x = s.x := rfl
@[simp] theorem State.setNZ_y (s : State) (v : Byte) : (s.setNZ v).y = s.y := rfl
@[simp] theorem State.setNZ_sp (s : State) (v : Byte) : (s.setNZ v).sp = s.sp := rfl
@[simp] theorem State.setNZ_pc (s : State) (v : Byte) : (s.setNZ v).pc = s.pc := rfl
@[simp] theorem State.setNZ_p (s : State) (v : Byte) : (s.setNZ v).p = s.p.setNZ v := rfl
@[simp] theorem State.setNZ_nmiPending (s : State) (v : Byte) : (s.setNZ v).nmiPending = s.nmiPending := rfl
@[simp] theorem State.setNZ_halted (s : State) (v : Byte) : (s.setNZ v).halted = s.halted := rfl
@[simp] theorem State.setNZ_mem (s : State) (v : Byte) : (s.setNZ v).mem = s.mem := rfl
@[simp] theorem State.setNZ_lines (s : State) (v : Byte) : (s.setNZ v).lines = s.lines := rfl
@[simp] theorem State.setNZ_inputs (s : State) (v : Byte) : (s.setNZ v).inputs = s.inputs := rfl
@[simp] theorem State.setNZ_lateI (s : State) (v : Byte) : (s.setNZ v).lateI = s.lateI := rfl
@[simp] theorem State.setNZ_tick (s : State) (v : Byte) : (s.setNZ v).tick = s.tick := rfl
@[simp] theorem State.setNZ_bus (s : State) (v : Byte) : (s.setNZ v).bus = s.bus := rfl
@[simp] theorem State.setNZ_cfg (s : State) (v : Byte) : (s.setNZ v).cfg = s.cfg := rfl

@[simp] theorem State.setC_a (s : State) (c : Bool) : (s.setC c).a = s.a := rfl
@[simp] theorem State.setC_x (s : State) (c : Bool) : (s.setC c).x = s.x := rfl
@[simp] theorem State.setC_y (s : State) (c : Bool) : (s.setC c).y = s.y := rfl
@[simp] theorem State.setC_sp (s : State) (c : Bool) : (s.setC c).sp = s.sp := rfl
@[simp] theorem State.setC_pc (s : State) (c : Bool) : (s.setC c).pc = s.pc := rfl
@[simp] theorem State.setC_p (s : State) (c : Bool) : (s.setC c).p = s.p.setC c := rfl
@[simp] theorem State.setC_nmiPending (s : State) (c : Bool) : (s.setC c).nmiPending = s.nmiPending := rfl
@[simp] theorem State.setC_halted (s : State) (c : Bool) : (s.setC c).halted = s.halted := rfl
@[simp] theorem State.setC_mem (s : State) (c : Bool) : (s.setC c).mem = s.mem := rfl
@[simp] theorem State.setC_lines (s : State) (c : Bool) : (s.setC c).lines = s.lines := rfl
@[simp] theorem State.setC_inputs (s : State) (c : Bool) : (s.setC c).inputs = s.inputs := rfl
@[simp] theorem State.setC_lateI (s : State) (c : Bool) : (s.setC c).lateI = s.lateI := rfl
@[simp] theorem State.setC_tick (s : State) (c : Bool) : (s.setC c).tick = s.tick := rfl
@[simp] theorem State.setC_bus (s : State) (c : Bool) : (s.setC c).bus = s.bus := rfl
@[simp] theorem State.setC_cfg (s : State) (c : Bool) : (s.setC c).cfg = s.cfg := rfl

@[simp] theorem State.jump_a (s : State) (w : Word) : (s.jump w).a = s.a := rfl
@[simp] theorem State.jump_x (s : State) (w : Word) : (s.jump w).x = s.x := rfl
@[simp] theorem State.jump_y (s : State) (w : Word) : (s.jump w).y = s.y := rfl
@[simp] theorem State.jump_sp (s : State) (w : Word) : (s.jump w).sp = s.sp := rfl
@[simp] theorem State.jump_pc (s : State) (w : Word) : (s.jump w).pc = w := rfl
@[simp] theorem State.jump_p (s : State) (w : Word) : (s.jump w).p = s.p := rfl
@[simp] theorem State.jump_nmiPending (s : State) (w : Word) : (s.jump w).nmiPending = s.nmiPending := rfl
@[simp] theorem State.jump_halted (s : State) (w : Word) : (s.jump w).halted = s.halted := rfl
@[simp] theorem State.jump_mem (s : State) (w : Word) : (s.jump w).mem = s.mem := rfl
@[simp] theorem State.jump_lines (s : State) (w : Word) : (s.jump w).lines = s.lines := rfl
@[simp] theorem State.jump_inputs (s : State) (w : Word) : (s.jump w).inputs = s.inputs := rfl
@[simp] theorem State.jump_lateI (s : State) (w : Word) : (s.jump w).lateI = s.lateI := rfl
@[simp] theorem State.jump_tick (s : State) (w : Word) : (s.jump w).tick = s.tick := rfl
@[simp] theorem State.jump_bus (s : State) (w : Word) : (s.jump w).bus = s.bus := rfl
@[simp] theorem State.jump_cfg (s : State) (w : Word) : (s.jump w).cfg = s.cfg := rfl

@[simp] theorem State.advance_a (s : State) (n : Nat) : (s.advance n).a = s.a := rfl
@[simp] theorem State.advance_x (s : State) (n : Nat) : (s.advance n).x = s.x := rfl
@[simp] theorem State.advance_y (s : State) (n : Nat) : (s.advance n).y = s.y := rfl
@[simp] theorem State.advance_sp (s : State) (n : Nat) : (s.advance n).sp = s.sp := rfl
@[simp] theorem State.advance_pc (s : State) (n : Nat) : (s.advance n).pc = s.pc + BitVec.ofNat 16 n := rfl
@[simp] theorem State.advance_p (s : State) (n : Nat) : (s.advance n).p = s.p := rfl
@[simp] theorem State.advance_nmiPending (s : State) (n : Nat) : (s.advance n).nmiPending = s.nmiPending := rfl
@[simp] theorem State.advance_halted (s : State) (n : Nat) : (s.advance n).halted = s.halted := rfl
@[simp] theorem State.advance_mem (s : State) (n : Nat) : (s.advance n).mem = s.mem := rfl
@[simp] theorem State.advance_lines (s : State) (n : Nat) : (s.advance n).lines = s.lines := rfl
@[simp] theorem State.advance_inputs (s : State) (n : Nat) : (s.advance n).inputs = s.inputs := rfl
@[simp] theorem State.advance_lateI (s : State) (n : Nat) : (s.advance n).lateI = s.lateI := rfl
@[simp] theorem State.advance_tick (s : State) (n : Nat) : (s.advance n).tick = s.tick := rfl
@[simp] theorem State.advance_bus (s : State) (n : Nat) : (s.advance n).bus = s.bus := rfl
@[simp] theorem State.advance_cfg (s : State) (n : Nat) : (s.advance n).cfg = s.cfg := rfl

@[simp] theorem State.write_a (s : State) (w : Word) (v : Byte) : (s.write w v).a = s.a := rfl
@[simp] theorem State.write_x (s : State) (w : Word) (v : Byte) : (s.write w v).x = s.x := rfl
@[simp] theorem State.write_y (s : State) (w : Word) (v : Byte) : (s.write w v).y = s.y := rfl
@[simp] theorem State.write_sp (s : State) (w : Word) (v : Byte) : (s.write w v).sp = s.sp := rfl
@[simp] theorem State.write_pc (s : State) (w : Word) (v : Byte) : (s.write w v).pc = s.pc := rfl
@[simp] theorem State.write_p (s : State) (w : Word) (v : Byte) : (s.write w v).p = s.p := rfl
@[simp] theorem State.write_nmiPending (s : State) (w : Word) (v : Byte) : (s.write w v).nmiPending = s.nmiPending := rfl
@[simp] theorem State.write_halted (s : State) (w : Word) (v : Byte) : (s.write w v).halted = s.halted := rfl
@[simp] theorem State.write_mem (s : State) (w : Word) (v : Byte) : (s.write w v).mem = s.memAfterWrite w v := rfl
@[simp] theorem State.write_lines (s : State) (w : Word) (v : Byte) : (s.write w v).lines = s.lines := rfl
@[simp] theorem State.write_inputs (s : State) (w : Word) (v : Byte) : (s.write w v).inputs = s.inputs := rfl
@[simp] theorem State.write_lateI (s : State) (w : Word) (v : Byte) : (s.write w v).lateI = s.lateI := rfl
@[simp] theorem State.write_tick (s : State) (w : Word) (v : Byte) : (s.write w v).tick = s.tick := rfl
@[simp] theorem State.write_bus (s : State) (w : Word) (v : Byte) : (s.write w v).bus = s.bus ++ [s.wrOf w v] := rfl
@[simp] theorem State.write_cfg (s : State) (w : Word) (v : Byte) : (s.write w v).cfg = s.cfg := rfl

@[simp] theorem State.noteOldI_a (s : State) (b : Bool) : (s.noteOldI b).a = s.a := rfl
@[simp] theorem State.noteOldI_x (s : State) (b : Bool) : (s.noteOldI b).x = s.x := rfl
@[simp] theorem State.noteOldI_y (s : State) (b : Bool) : (s.noteOldI b).y = s.y := rfl
@[simp] theorem State.noteOldI_sp (s : State) (b : Bool) : (s.noteOldI b).sp = s.sp := rfl
@[simp] theorem State.noteOldI_pc (s : State) (b : Bool) : (s.noteOldI b).pc = s.pc := rfl
@[simp] theorem State.noteOldI_p (s : State) (b : Bool) : (s.noteOldI b).p = s.p := rfl
@[simp] theorem State.noteOldI_nmiPending (s : State) (b : Bool) : (s.noteOldI b).nmiPending = s.nmiPending := rfl
@[simp] theorem State.noteOldI_halted (s : State) (b : Bool) : (s.noteOldI b).halted = s.halted := rfl
@[simp] theorem State.noteOldI_mem (s : State) (b : Bool) : (s.noteOldI b).mem = s.mem := rfl
@[simp] theorem State.noteOldI_lines (s : State) (b : Bool) : (s.noteOldI b).lines = s.lines := rfl
@[simp] theorem State.noteOldI_inputs (s : State) (b : Bool) : (s.noteOldI b).inputs = s.inputs := rfl
@[simp] theorem State.noteOldI_lateI (s : State) (b : Bool) : (s.noteOldI b).lateI = some b := rfl
@[simp] theorem State.noteOldI_tick (s : State) (b : Bool) : (s.noteOldI b).tick = s.tick := rfl
@[simp] theorem State.noteOldI_bus (s : State) (b : Bool) : (s.noteOldI b).bus = s.bus := rfl
@[simp] theorem State.noteOldI_cfg (s : State) (b : Bool) : (s.noteOldI b).cfg = s.cfg := rfl

@[simp] theorem State.begun_a (s : State) : (s.begun).a = s.a := rfl
@[simp] theorem State.begun_x (s : State) : (s.begun).x = s.x := rfl
@[simp] theorem State.begun_y (s : State) : (s.begun).y = s.y := rfl
@[simp] theorem State.begun_sp (s : State) : (s.begun).sp = s.sp := rfl
@[simp] theorem State.begun_pc (s : State) : (s.begun).pc = s.pc := rfl
@[simp] theorem State.begun_p (s : State) : (s.begun).p = s.p := rfl
@[simp] theorem State.begun_nmiPending (s : State) : (s.begun).nmiPending = s.nmiPending := rfl
@[simp] theorem State.begun_halted (s : State) : (s.begun).halted = s.halted := rfl
@[simp] theorem State.begun_mem (s : State) : (s.begun).mem = s.mem := rfl
@[simp] theorem State.begun_lines (s : State) : (s.begun).lines = s.lines := rfl
@[simp] theorem State.begun_inputs (s : State) : (s.begun).inputs = s.inputs := rfl
@[simp] theorem State.begun_lateI (s : State) : (s.begun).lateI = none := rfl
@[simp] theorem State.begun_tick (s : State) : (s.begun).tick = s.tick := rfl
@[simp] theorem State.begun_bus (s : State) : (s.begun).bus = s.bus := rfl
@[simp] theorem State.begun_cfg (s : State) : (s.begun).cfg = s.cfg := rfl

@[simp] theorem State.halt_a (s : State) : (s.halt).a = s.a := rfl
@[simp] theorem State.halt_x (s : State) : (s.halt).x = s.x := rfl
@[simp] theorem State.halt_y (s : State) : (s.halt).y = s.y := rfl
@[simp] theorem State.halt_sp (s : State) : (s.halt).sp = s.sp := rfl
@[simp] theorem State.halt_pc (s : State) : (s.halt).pc = s.pc := rfl
@[simp] theorem State.halt_p (s : State) : (s.halt).p = s.p := rfl
@[simp] theorem State.halt_nmiPending (s : State) : (s.halt).nmiPending = s.nmiPending := rfl
@[simp] theorem State.halt_halted (s : State) : (s.halt).halted = true := rfl
@[simp] theorem State.halt_mem (s : State) : (s.halt).mem = s.mem := rfl
@[simp] theorem State.halt_lines (s : State) : (s.halt).lines = s.lines := rfl
@[simp] theorem State.halt_inputs (s : State) : (s.halt).inputs = s.inputs := rfl
@[simp] theorem State.halt_lateI (s : State) : (s.halt).lateI = s.lateI := rfl
@[simp] theorem State.halt_tick (s : State) : (s.halt).tick = s.tick := rfl
@[simp] theorem State.halt_bus (s : State) : (s.halt).bus = s.bus := rfl
@[simp] theorem State.halt_cfg (s : State) : (s.halt).cfg = s.cfg := rfl

@[simp] theorem State.push_a (s : State) (v : Byte) : (s.push v).a = s.a := rfl
@[simp] theorem State.push_x (s : State) (v : Byte) : (s.push v).x = s.x := rfl
@[simp] theorem State.push_y (s : State) (v : Byte) : (s.push v).y = s.y := rfl
@[simp] theorem State.push_sp (s : State) (v : Byte) : (s.push v).sp = s.sp - 1 := rfl
@[simp] theorem State.push_pc (s : State) (v : Byte) : (s.push v).pc = s.pc := rfl
@[simp] theorem State.push_p (s : State) (v : Byte) : (s.push v).p = s.p := rfl
@[simp] theorem State.push_nmiPending (s : State) (v : Byte) : (s.push v).nmiPending = s.nmiPending := rfl
@[simp] theorem State.push_halted (s : State) (v : Byte) : (s.push v).halted = s.halted := rfl
@[simp] theorem State.push_mem (s : State) (v : Byte) : (s.push v).mem = s.memAfterWrite (stackAddr s.sp) v := rfl
@[simp] theorem State.push_lines (s : State) (v : Byte) : (s.push v).lines = s.lines := rfl
@[simp] theorem State.push_inputs (s : State) (v : Byte) : (s.push v).inputs = s.inputs := rfl
@[simp] theorem State.push_lateI (s : State) (v : Byte) : (s.push v).lateI = s.lateI := rfl
@[simp] theorem State.push_tick (s : State) (v : Byte) : (s.push v).tick = s.tick := rfl
@[simp] theorem State.push_bus (s : State) (v : Byte) : (s.push v).bus = s.bus ++ [s.wrOf (stackAddr s.sp) v] := rfl
@[simp] theorem State.push_cfg (s : State) (v : Byte) : (s.push v).cfg = s.cfg := rfl

@[simp] theorem State.afterPull_a (s : State) : (s.afterPull).a = s.a := rfl
@[simp] theorem State.afterPull_x (s : State) : (s.afterPull).x = s.x := rfl
@[simp] theorem State.afterPull_y (s : State) : (s.afterPull).y = s.y := rfl
@[simp] theorem State.afterPull_sp (s : State) : (s.afterPull).sp = s.sp + 1 := rfl
@[simp] theorem State.afterPull_pc (s : State) : (s.afterPull).pc = s.pc := rfl
@[simp] theorem State.afterPull_p (s : State) : (s.afterPull).p = s.p := rfl
@[simp] theorem State.afterPull_nmiPending (s : State) : (s.afterPull).nmiPending = s.nmiPending := rfl
@[simp] theorem State.afterPull_halted (s : State) : (s.afterPull).halted = s.halted := rfl
@[simp] theorem State.afterPull_mem (s : State) : (s.afterPull).mem = s.mem := rfl
@[simp] theorem State.afterPull_lines (s : State) : (s.afterPull).lines = s.lines := rfl
@[simp] theorem State.afterPull_inputs (s : State) : (s.afterPull).inputs = s.inputs := rfl
@[simp] theorem State.afterPull_lateI (s : State) : (s.afterPull).lateI = s.lateI := rfl
@[simp] theorem State.afterPull_tick (s : State) : (s.afterPull).tick = s.tick := rfl
@[simp] theorem State.afterPull_bus (s : State) : (s.afterPull).bus = s.bus ++ [s.rdOf .stack (stackAddr (s.sp + 1))] := rfl
@[simp] theorem State.afterPull_cfg (s : State) : (s.afterPull).cfg = s.cfg := rfl

@[simp] theorem State.set_a_a (s : State) (v : Byte) : (s.set .a v).a = v := rfl
@[simp] theorem State.set_a_x (s : State) (v : Byte) : (s.set .a v).x = s.x := rfl
@[simp] theorem State.set_a_y (s : State) (v : Byte) : (s.set .a v).y = s.y := rfl
@[simp] theorem State.set_a_sp (s : State) (v : Byte) : (s.set .a v).sp = s.sp := rfl
@[simp] theorem State.set_a_pc (s : State) (v : Byte) : (s.set .a v).pc = s.pc := rfl
@[simp] theorem State.set_a_p (s : State) (v : Byte) : (s.set .a v).p = s.p := rfl
@[simp] theorem State.set_a_nmiPending (s : State) (v : Byte) : (s.set .a v).nmiPending = s.nmiPending := rfl
@[simp] theorem State.set_a_halted (s : State) (v : Byte) : (s.set .a v).halted = s.halted := rfl
@[simp] theorem State.set_a_mem (s : State) (v : Byte) : (s.set .a v).mem = s.mem := rfl
@[simp] theorem State.set_a_lines (s : State) (v : Byte) : (s.set .a v).lines = s.lines := rfl
@[simp] theorem State.set_a_inputs (s : State) (v : Byte) : (s.set .a v).inputs = s.inputs := rfl
@[simp] theorem State.set_a_lateI (s : State) (v : Byte) : (s.set .a v).lateI = s.lateI := rfl
@[simp] theorem State.set_a_tick (s : State) (v : Byte) : (s.set .a v).tick = s.tick := rfl
@[simp] theorem State.set_a_bus (s : State) (v : Byte) : (s.set .a v).bus = s.bus := rfl
@[simp] theorem State.set_a_cfg (s : State) (v : Byte) : (s.set .a v).cfg = s.cfg := rfl
@[simp] theorem State.get_a (s : State) : s.get .a = s.a := rfl

@[simp] theorem State.set_x_a (s : State) (v : Byte) : (s.set .x v).a = s.a := rfl
@[simp] theorem State.set_x_x (s : State) (v : Byte) : (s.set .x v).x = v := rfl
@[simp] theorem State.set_x_y (s : State) (v : Byte) : (s.set .x v).y = s.y := rfl
@[simp] theorem State.set_x_sp (s : State) (v : Byte) : (s.set .x v).sp = s.sp := rfl
@[simp] theorem State.set_x_pc (s : State) (v : Byte) : (s.set .x v).pc = s.pc := rfl
@[simp] theorem State.set_x_p (s : State) (v : Byte) : (s.set .x v).p = s.p := rfl
@[simp] theorem State.set_x_nmiPending (s : State) (v : Byte) : (s.set .x v).nmiPending = s.nmiPending := rfl
@[simp] theorem State.set_x_halted (s : State) (v : Byte) : (s.set .x v).halted = s.halted := rfl
@[simp] theorem State.set_x_mem (s : State) (v : Byte) : (s.set .x v).mem = s.mem := rfl
@[simp] theorem State.set_x_lines (s : State) (v : Byte) : (s.set .x v).lines = s.lines := rfl
@[simp] theorem State.set_x_inputs (s : State) (v : Byte) : (s.set .x v).inputs = s.inputs := rfl
@[simp] theorem State.set_x_lateI (s : State) (v : Byte) : (s.set .x v).lateI = s.lateI := rfl
@[simp] theorem State.set_x_tick (s : State) (v : Byte) : (s.set .x v).tick = s.tick := rfl
@[simp] theorem State.set_x_bus (s : State) (v : Byte) : (s.set .x v).bus = s.bus := rfl
@[simp] theorem State.set_x_cfg (s : State) (v : Byte) : (s.set .x v).cfg = s.cfg := rfl
@[simp] theorem State.get_x (s : State) : s.get .x = s.x := rfl

@[simp] theorem State.set_y_a (s : State) (v : Byte) : (s.set .y v).a = s.a := rfl
@[simp] theorem State.set_y_x (s : State) (v : Byte) : (s.set .y v).x = s.x := rfl
@[simp] theorem State.set_y_y (s : State) (v : Byte) : (s.set .y v).y = v := rfl
@[simp] theorem State.set_y_sp (s : State) (v : Byte) : (s.set .y v).sp = s.sp := rfl
@[simp] theorem State.set_y_pc (s : State) (v : Byte) : (s.set .y v).pc = s.pc := rfl
@[simp] theorem State.set_y_p (s : State) (v : Byte) : (s.set .y v).p = s.p := rfl
@[simp] theorem State.set_y_nmiPending (s : State) (v : Byte) : (s.set .y v).nmiPending = s.nmiPending := rfl
@[simp] theorem State.set_y_halted (s : State) (v : Byte) : (s.set .y v).halted = s.halted := rfl
@[simp] theorem State.set_y_mem (s : State) (v : Byte) : (s.set .y v).mem = s.mem := rfl
@[simp] theorem State.set_y_lines (s : State) (v : Byte) : (s.set .y v).lines = s.lines := rfl
@[simp] theorem State.set_y_inputs (s : State) (v : Byte) : (s.set .y v).inputs = s.inputs := rfl
@[simp] theorem State.set_y_lateI (s : State) (v : Byte) : (s.set .y v).lateI = s.lateI := rfl
@[simp] theorem State.set_y_tick (s : State) (v : Byte) : (s.set .y v).tick = s.tick := rfl
@[simp] theorem State.set_y_bus (s : State) (v : Byte) : (s.set .y v).bus = s.bus := rfl
@[simp] theorem State.set_y_cfg (s : State) (v : Byte) : (s.set .y v).cfg = s.cfg := rfl
@[simp] theorem State.get_y (s : State) : s.get .y = s.y := rfl

@[simp] theorem State.set_sp_a (s : State) (v : Byte) : (s.set .sp v).a = s.a := rfl
@[simp] theorem State.set_sp_x (s : State) (v : Byte) : (s.set .sp v).x = s.x := rfl
@[simp] theorem State.set_sp_y (s : State) (v : Byte) : (s.set .sp v).y = s.y := rfl
@[simp] theorem State.set_sp_sp (s : State) (v : Byte) : (s.set .sp v).sp = v := rfl
@[simp] theorem State.set_sp_pc (s : State) (v : Byte) : (s.set .sp v).pc = s.pc := rfl
@[simp] theorem State.set_sp_p (s : State) (v : Byte) : (s.set .sp v).p = s.p := rfl
@[simp] theorem State.set_sp_nmiPending (s : State) (v : Byte) : (s.set .sp v).nmiPending = s.nmiPending := rfl
@[simp] theorem State.set_sp_halted (s : State) (v : Byte) : (s.set .sp v).halted = s.halted := rfl
@[simp] theorem State.set_sp_mem (s : State) (v : Byte) : (s.set .sp v).mem = s.mem := rfl
@[simp] theorem State.set_sp_lines (s : State) (v : Byte) : (s.set .sp v).lines = s.lines := rfl
@[simp] theorem State.set_sp_inputs (s : State) (v : Byte) : (s.set .sp v).inputs = s.inputs := rfl
@[simp] theorem State.set_sp_lateI (s : State) (v : Byte) : (s.set .sp v).lateI = s.lateI := rfl
@[simp] theorem State.set_sp_tick (s : State) (v : Byte) : (s.set .sp v).tick = s.tick := rfl
@[simp] theorem State.set_sp_bus (s : State) (v : Byte) : (s.set .sp v).bus = s.bus := rfl
@[simp] theorem State.set_sp_cfg (s : State) (v : Byte) : (s.set .sp v).cfg = s.cfg := rfl
@[simp] theorem State.get_sp (s : State) : s.get .sp = s.sp := rfl

@[simp] theorem State.set_pc (s : State) (r : Reg) (v : Byte) : (s.set r v).pc = s.pc := by cases r <;> rfl
@[simp] theorem State.set_p (s : State) (r : Reg) (v : Byte) : (s.set r v).p = s.p := by cases r <;> rfl
@[simp] theorem State.set_nmiPending (s : State) (r : Reg) (v : Byte) : (s.set r v).nmiPending = s.nmiPending := by cases r <;> rfl
@[simp] theorem State.set_halted (s : State) (r : Reg) (v : Byte) : (s.set r v).halted = s.halted := by cases r <;> rfl
@[simp] theorem State.set_mem (s : State) (r : Reg) (v : Byte) : (s.set r v).mem = s.mem := by cases r <;> rfl
@[simp] theorem State.set_lines (s : State) (r : Reg) (v : Byte) : (s.set r v).lines = s.lines := by cases r <;> rfl
@[simp] theorem State.set_inputs (s : State) (r : Reg) (v : Byte) : (s.set r v).inputs = s.inputs := by cases r <;> rfl
@[simp] theorem State.set_lateI (s : State) (r : Reg) (v : Byte) : (s.set r v).lateI = s.lateI := by cases r <;> rfl
@[simp] theorem State.set_tick (s : State) (r : Reg) (v : Byte) : (s.set r v).tick = s.tick := by cases r <;> rfl
@[simp] theorem State.set_bus (s : State) (r : Reg) (v : Byte) : (s.set r v).bus = s.bus := by cases r <;> rfl
@[simp] theorem State.set_cfg (s : State) (r : Reg) (v : Byte) : (s.set r v).cfg = s.cfg := by cases r <;> rfl

@[simp] theorem Flags.setNZ_n (g : Flags) (v : Byte) : (g.setNZ v).n = v.getLsbD 7 := rfl
@[simp] theorem Flags.setC_n (g : Flags) (b : Bool) : (g.setC b).n = g.n := rfl
@[simp] theorem Flags.setNZ_v (g : Flags) (v : Byte) : (g.setNZ v).v = g.v := rfl
@[simp] theorem Flags.setC_v (g : Flags) (b : Bool) : (g.setC b).v = g.v := rfl
@[simp] theorem Flags.setNZ_d (g : Flags) (v : Byte) : (g.setNZ v).d = g.d := rfl
@[simp] theorem Flags.setC_d (g : Flags) (b : Bool) : (g.setC b).d = g.d := rfl
@[simp] theorem Flags.setNZ_i (g : Flags) (v : Byte) : (g.setNZ v).i = g.i := rfl
@[simp] theorem Flags.setC_i (g : Flags) (b : Bool) : (g.setC b).i = g.i := rfl
@[simp] theorem Flags.setNZ_z (g : Flags) (v : Byte) : (g.setNZ v).z = decide (v = 0) := rfl
@[simp] theorem Flags.setC_z (g : Flags) (b : Bool) : (g.setC b).z = g.z := rfl
@[simp] theorem Flags.setNZ_c (g : Flags) (v : Byte) : (g.setNZ v).c = g.c := rfl
@[simp] theorem Flags.setC_c (g : Flags) (b : Bool) : (g.setC b).c = b := rfl
@[simp] theorem State.wrOf_write (s : State) (w : Word) (v : Byte) (a : Word) (u : Byte) : (s.write w v).wrOf a u = s.wrOf a u := rfl
@[simp] theorem State.wrOf_push (s : State) (v : Byte) (a : Word) (u : Byte) : (s.push v).wrOf a u = s.wrOf a u := rfl
@[simp] theorem State.wrOf_log (s : State) (l : List BusAccess) (a : Word) (u : Byte) : (s.log l).wrOf a u = s.wrOf a u := rfl
@[simp] theorem State.pushWord_a (s : State) (w : Word) : (s.pushWord w).a = s.a := by
  simp [State.pushWord]
@[simp] theorem State.pushWord_x (s : State) (w : Word) : (s.pushWord w).x = s.x := by
  simp [State.pushWord]
@[simp] theorem State.pushWord_y (s : State) (w : Word) : (s.pushWord w).y = s.y := by
  simp [State.pushWord]
@[simp] theorem State.pushWord_sp (s : State) (w : Word) : (s.pushWord w).sp = s.sp - 1 - 1 := by
  simp [State.pushWord]
@[simp] theorem State.pushWord_pc (s : State) (w : Word) : (s.pushWord w).pc = s.pc := by
  simp [State.pushWord]
@[simp] theorem State.pushWord_p (s : State) (w : Word) : (s.pushWord w).p = s.p := by
  simp [State.pushWord]
@[simp] theorem State.pushWord_nmiPending (s : State) (w : Word) : (s.pushWord w).nmiPending = s.nmiPending := by
  simp [State.pushWord]
@[simp] theorem State.pushWord_halted (s : State) (w : Word) : (s.pushWord w).halted = s.halted := by
  simp [State.pushWord]
@[simp] theorem State.pushWord_mem (s : State) (w : Word) : (s.pushWord w).mem = (s.push (hiByte w)).memAfterWrite (stackAddr (s.sp - 1)) (loByte w) := by
  simp [State.pushWord]
@[simp] theorem State.pushWord_lines (s : State) (w : Word) : (s.pushWord w).lines = s.lines := by
  simp [State.pushWord]
@[simp] theorem State.pushWord_inputs (s : State) (w : Word) : (s.pushWord w).inputs = s.inputs := by
  simp [State.pushWord]
@[simp] theorem State.pushWord_lateI (s : State) (w : Word) : (s.pushWord w).lateI = s.lateI := by
  simp [State.pushWord]
@[simp] theorem State.pushWord_tick (s : State) (w : Word) : (s.pushWord w).tick = s.tick := by
  simp [State.pushWord]
@[simp] theorem State.pushWord_bus (s : State) (w : Word) : (s.pushWord w).bus = s.bus ++ [s.wrOf (stackAddr s.sp) (hiByte w), s.wrOf (stackAddr (s.sp - 1)) (loByte w)] := by
  simp [State.pushWord]
@[simp] theorem State.pushWord_cfg (s : State) (w : Word) : (s.pushWord w).cfg = s.cfg := by
  simp [State.pushWord]

@[simp] theorem State.wrOf_pushWord (s : State) (w a : Word) (u : Byte) : (s.pushWord w).wrOf a u = s.wrOf a u := rfl
@[simp] theorem State.throughVector_a (s : State) (w : Word) : (s.throughVector w).a = s.a := by
  simp [State.throughVector]
@[simp] theorem State.throughVector_x (s : State) (w : Word) : (s.throughVector w).x = s.x := by
  simp [State.throughVector]
@[simp] theorem State.throughVector_y (s : State) (w : Word) : (s.throughVector w).y = s.y := by
  simp [State.throughVector]
@[simp] theorem State.throughVector_sp (s : State) (w : Word) : (s.throughVector w).sp = s.sp := by
  simp [State.throughVector]
@[simp] theorem State.throughVector_pc (s : State) (w : Word) : (s.throughVector w).pc = s.readWord .vector w (w + 1) := by
  simp [State.throughVector]
@[simp] theorem State.throughVector_p (s : State) (w : Word) : (s.throughVector w).p = s.p := by
  simp [State.throughVector]
@[simp] theorem State.throughVector_nmiPending (s : State) (w : Word) : (s.throughVector w).nmiPending = s.nmiPending := by
  simp [State.throughVector]
@[simp] theorem State.throughVector_halted (s : State) (w : Word) : (s.throughVector w).halted = s.halted := by
  simp [State.throughVector]
@[simp] theorem State.throughVector_mem (s : State) (w : Word) : (s.throughVector w).mem = s.mem := by
  simp [State.throughVector]
@[simp] theorem State.throughVector_lines (s : State) (w : Word) : (s.throughVector w).lines = s.lines := by
  simp [State.throughVector]
@[simp] theorem State.throughVector_inputs (s : State) (w : Word) : (s.throughVector w).inputs = s.inputs := by
  simp [State.throughVector]
@[simp] theorem State.throughVector_lateI (s : State) (w : Word) : (s.throughVector w).lateI = s.lateI := by
  simp [State.throughVector]
@[simp] theorem State.throughVector_tick (s : State) (w : Word) : (s.throughVector w).tick = s.tick := by
  simp [State.throughVector]
@[simp] theorem State.throughVector_bus (s : State) (w : Word) : (s.throughVector w).bus = s.bus ++ s.rdWordOf .vector w (w + 1) := by
  simp [State.throughVector]
@[simp] theorem State.throughVector_cfg (s : State) (w : Word) : (s.throughVector w).cfg = s.cfg := by
  simp [State.throughVector]

@[simp] theorem State.interrupt_a (s : State) (w : Word) (b : Bool) (r : Word) : (s.interrupt w b r).a = s.a := by
  simp [State.interrupt]
@[simp] theorem State.interrupt_x (s : State) (w : Word) (b : Bool) (r : Word) : (s.interrupt w b r).x = s.x := by
  simp [State.interrupt]
@[simp] theorem State.interrupt_y (s : State) (w : Word) (b : Bool) (r : Word) : (s.interrupt w b r).y = s.y := by
  simp [State.interrupt]
@[simp] theorem State.interrupt_sp (s : State) (w : Word) (b : Bool) (r : Word) : (s.interrupt w b r).sp = s.sp - 1 - 1 - 1 := by
  simp [State.interrupt]
@[simp] theorem State.interrupt_p (s : State) (w : Word) (b : Bool) (r : Word) : (s.interrupt w b r).p = { s.p with i := true } := by
  simp [State.interrupt]
@[simp] theorem State.interrupt_nmiPending (s : State) (w : Word) (b : Bool) (r : Word) : (s.interrupt w b r).nmiPending = s.nmiPending := by
  simp [State.interrupt]
@[simp] theorem State.interrupt_halted (s : State) (w : Word) (b : Bool) (r : Word) : (s.interrupt w b r).halted = s.halted := by
  simp [State.interrupt]
@[simp] theorem State.interrupt_mem (s : State) (w : Word) (b : Bool) (r : Word) : (s.interrupt w b r).mem = (s.pushWord r).memAfterWrite (stackAddr (s.sp - 1 - 1)) (s.p.pByte b) := by
  simp [State.interrupt]
@[simp] theorem State.interrupt_lines (s : State) (w : Word) (b : Bool) (r : Word) : (s.interrupt w b r).lines = s.lines := by
  simp [State.interrupt]
@[simp] theorem State.interrupt_inputs (s : State) (w : Word) (b : Bool) (r : Word) : (s.interrupt w b r).inputs = s.inputs := by
  simp [State.interrupt]
@[simp] theorem State.interrupt_lateI (s : State) (w : Word) (b : Bool) (r : Word) : (s.interrupt w b r).lateI = s.lateI := by
  simp [State.interrupt]
@[simp] theorem State.interrupt_tick (s : State) (w : Word) (b : Bool) (r : Word) : (s.interrupt w b r).tick = s.tick := by
  simp [State.interrupt]
@[simp] theorem State.interrupt_cfg (s : State) (w : Word) (b : Bool) (r : Word) : (s.interrupt w b r).cfg = s.cfg := by
  simp [State.interrupt]

@[simp] theorem State.returnFromInterrupt_a (s : State) : (s.returnFromInterrupt).a = s.a := by
  simp [State.returnFromInterrupt]
@[simp] theorem State.returnFromInterrupt_x (s : State) : (s.returnFromInterrupt).x = s.x := by
  simp [State.returnFromInterrupt]
@[simp] theorem State.returnFromInterrupt_y (s : State) : (s.returnFromInterrupt).y = s.y := by
  simp [State.returnFromInterrupt]
@[simp] theorem State.returnFromInterrupt_sp (s : State) : (s.returnFromInterrupt).sp = s.sp + 1 + 1 + 1 := by
  simp [State.returnFromInterrupt]
@[simp] theorem State.returnFromInterrupt_pc (s : State) : (s.returnFromInterrupt).pc = s.afterPull.pulledWord := by
  simp [State.returnFromInterrupt]
@[simp] theorem State.returnFromInterrupt_p (s : State) : (s.returnFromInterrupt).p = Flags.ofByte s.pulled := by
  simp [State.returnFromInterrupt]
@[simp] theorem State.returnFromInterrupt_nmiPending (s : State) : (s.returnFromInterrupt).nmiPending = s.nmiPending := by
  simp [State.returnFromInterrupt]
@[simp] theorem State.returnFromInterrupt_halted (s : State) : (s.returnFromInterrupt).halted = s.halted := by
  simp [State.returnFromInterrupt]
@[simp] theorem State.returnFromInterrupt_mem (s : State) : (s.returnFromInterrupt).mem = s.mem := by
  simp [State.returnFromInterrupt]
@[simp] theorem State.returnFromInterrupt_lines (s : State) : (s.returnFromInterrupt).lines = s.lines := by
  simp [State.returnFromInterrupt]
@[simp] theorem State.returnFromInterrupt_inputs (s : State) : (s.returnFromInterrupt).inputs = s.inputs := by
  simp [State.returnFromInterrupt]
@[simp] theorem State.returnFromInterrupt_lateI (s : State) : (s.returnFromInterrupt).lateI = s.lateI := by
  simp [State.returnFromInterrupt]
@[simp] theorem State.returnFromInterrupt_tick (s : State) : (s.returnFromInterrupt).tick = s.tick := by
  simp [State.returnFromInterrupt]
@[simp] theorem State.returnFromInterrupt_cfg (s : State) : (s.returnFromInterrupt).cfg = s.cfg := by
  simp [State.returnFromInterrupt]

@[simp] theorem State.resetSequence_a (s : State) : (s.resetSequence).a = s.freeByte .a := by
  simp [State.resetSequence]
@[simp] theorem State.resetSequence_x (s : State) : (s.resetSequence).x = s.freeByte .x := by
  simp [State.resetSequence]
@[simp] theorem State.resetSequence_y (s : State) : (s.resetSequence).y = s.freeByte .y := by
  simp [State.resetSequence]
@[simp] theorem State.resetSequence_sp (s : State) : (s.resetSequence).sp = s.freeByte .sp := by
  simp [State.resetSequence]
@[simp] theorem State.resetSequence_p (s : State) : (s.resetSequence).p = { n := s.freeBit .n, v := s.freeBit .v, d := s.freeBit .d, i := true, z := s.freeBit .z, c := s.freeBit .c } := by
  simp [State.resetSequence]
@[simp] theorem State.resetSequence_nmiPending (s : State) : (s.resetSequence).nmiPending = false := by
  simp [State.resetSequence]
@[simp] theorem State.resetSequence_halted (s : State) : (s.resetSequence).halted = false := by
  simp [State.resetSequence]
@[simp] theorem State.resetSequence_mem (s : State) : (s.resetSequence).mem = s.mem := by
  simp [State.resetSequence]
@[simp] theorem State.resetSequence_lines (s : State) : (s.resetSequence).lines = s.lines := by
  simp [State.resetSequence]
@[simp] theorem State.resetSequence_inputs (s : State) : (s.resetSequence).inputs = s.inputs := by
  simp [State.resetSequence]
@[simp] theorem State.resetSequence_lateI (s : State) : (s.resetSequence).lateI = s.lateI := by
  simp [State.resetSequence]
@[simp] theorem State.resetSequence_tick (s : State) : (s.resetSequence).tick = s.tick := by
  simp [State.resetSequence]
@[simp] theorem State.resetSequence_cfg (s : State) : (s.resetSequence).cfg = s.cfg := by
  simp [State.resetSequence]


end Sys2Proof.Machine
end

