-- ==== Sys2Proof/Laws/Ops.lean ====
section
/-! SUPPORT. What the named operations over memory and registers do, said once: reads after an update, reads after
a write, the stack, the interrupt sequence, the invariant. Proofs cite these instead of unfolding the operations. -/

namespace Sys2Proof.Machine

/-! ## Reads -/

/-- A read depends on memory, the counter and the parameters alone. -/
theorem State.read_congr {s t : State} (hm : t.mem = s.mem) (ht : t.tick = s.tick) (hc : t.cfg = s.cfg)
    (k : AccessKind) (a : Word) : t.read k a = s.read k a := by
  unfold State.read
  rw [hm, ht, hc]

/-- The record of a read depends on memory, the counter and the parameters alone. -/
theorem State.rdOf_congr {s t : State} (hm : t.mem = s.mem) (ht : t.tick = s.tick) (hc : t.cfg = s.cfg)
    (k : AccessKind) (a : Word) : t.rdOf k a = s.rdOf k a := by
  unfold State.rdOf
  rw [State.read_congr hm ht hc, hc]

/-- Two addresses of one location at which the same kind of thing stands read alike, devices included
(20_memory.md R67). -/
theorem State.read_of_same_location {s : State} {a b : Word} (hl : cellOf s.cfg a = cellOf s.cfg b)
    (hk : kindAt s.cfg a = kindAt s.cfg b) (k : AccessKind) : s.read k a = s.read k b := by
  unfold State.read
  rw [hl, hk]

/-- They are also written alike. -/
theorem State.memAfterWrite_of_same_location {s : State} {a b : Word} (hl : cellOf s.cfg a = cellOf s.cfg b)
    (hk : kindAt s.cfg a = kindAt s.cfg b) (v : Byte) : s.memAfterWrite a v = s.memAfterWrite b v := by
  unfold State.memAfterWrite
  rw [hl, hk]

/-- Without the on-chip port the location says what stands at an address. -/
theorem kindAt_of_same_location {cfg : Config} {a b : Word} (hp : cfg.ioPort = false)
    (hl : cellOf cfg a = cellOf cfg b) : kindAt cfg a = kindAt cfg b := by
  unfold kindAt
  rw [hl, hp]
  rfl

@[simp] theorem State.read_log (s : State) (l : List BusAccess) (k : AccessKind) (a : Word) :
    (s.log l).read k a = s.read k a := rfl

@[simp] theorem State.read_set (s : State) (r : Reg) (v : Byte) (k : AccessKind) (a : Word) :
    (s.set r v).read k a = s.read k a := by cases r <;> rfl

@[simp] theorem State.read_setP (s : State) (f : Flags) (k : AccessKind) (a : Word) :
    (s.setP f).read k a = s.read k a := rfl

@[simp] theorem State.read_setNZ (s : State) (v : Byte) (k : AccessKind) (a : Word) :
    (s.setNZ v).read k a = s.read k a := rfl

@[simp] theorem State.read_setC (s : State) (c : Bool) (k : AccessKind) (a : Word) :
    (s.setC c).read k a = s.read k a := rfl

@[simp] theorem State.read_jump (s : State) (w : Word) (k : AccessKind) (a : Word) :
    (s.jump w).read k a = s.read k a := rfl

@[simp] theorem State.read_advance (s : State) (n : Nat) (k : AccessKind) (a : Word) :
    (s.advance n).read k a = s.read k a := rfl

@[simp] theorem State.read_afterPull (s : State) (k : AccessKind) (a : Word) :
    s.afterPull.read k a = s.read k a := rfl

@[simp] theorem State.read_begun (s : State) (k : AccessKind) (a : Word) : s.begun.read k a = s.read k a := rfl

@[simp] theorem State.read_noteOldI (s : State) (b : Bool) (k : AccessKind) (a : Word) :
    (s.noteOldI b).read k a = s.read k a := rfl

/-! ## Writes -/

/-- What a write leaves of memory keeps the canonical form. -/
theorem State.memAfterWrite_wf {s : State} (h : s.mem.wf) (a : Word) (v : Byte) : (s.memAfterWrite a v).wf := by
  unfold State.memAfterWrite
  split
  · exact Memory.wf_write h _ _
  · exact h
  · exact h

/-- A write lists no location that the part has not. -/
theorem State.memAfterWrite_mem {s : State} {a : Word} {v : Byte} {q : Host.Cell} (h : q ∈ s.memAfterWrite a v) :
    q ∈ s.mem ∨ q.1 = cellOf s.cfg a := by
  unfold State.memAfterWrite at h
  split at h
  · rcases Memory.mem_write h with h | ⟨rfl, -⟩
    · exact .inl h
    · exact .inr rfl
  · exact .inl h
  · exact .inl h

theorem cellOf_lt (cfg : Config) (a : Word) : cellOf cfg a < cfg.addrLines.space := by
  unfold cellOf
  cases cfg.addrLines <;> exact Nat.mod_lt _ (by decide)

/-- A write keeps the invariant. -/
theorem State.Inv_memAfterWrite {s : State} (h : s.Inv) (a : Word) (v : Byte) :
    (s.memAfterWrite a v).wf ∧ ∀ q ∈ s.memAfterWrite a v, q.1 < s.cfg.addrLines.space := by
  refine ⟨State.memAfterWrite_wf h.1 a v, fun q hq => ?_⟩
  rcases State.memAfterWrite_mem hq with hq | hq
  · exact h.2 q hq
  · exact hq ▸ cellOf_lt _ _

theorem State.Inv_write {s : State} (h : s.Inv) (a : Word) (v : Byte) : (s.write a v).Inv :=
  State.Inv_memAfterWrite h a v

/-- The invariant is about memory and the parameters alone. -/
theorem State.Inv_congr {s t : State} (hm : t.mem = s.mem) (hc : t.cfg = s.cfg) (h : s.Inv) : t.Inv := by
  unfold State.Inv
  rw [hm, hc]
  exact h

/-- A byte written to RAM reads back, at every address of its location. -/
theorem State.read_write_ram {s : State} (h : s.mem.wf) {a : Word} (hr : kindAt s.cfg a = .ram) (v : Byte)
    (k : AccessKind) : (s.write a v).read k a = v := by
  simp [State.read, hr, State.memAfterWrite, Memory.read_write_same h]

/-- A write leaves the bytes at other locations. -/
theorem State.read_write_other (s : State) (a : Word) (v : Byte) (k : AccessKind) {b : Word}
    (h : cellOf s.cfg a ≠ cellOf s.cfg b) : (s.write a v).read k b = s.read k b := by
  unfold State.read
  simp only [State.write_cfg, State.write_tick, State.write_mem]
  split
  · rfl
  all_goals
    unfold State.memAfterWrite
    split
    · exact Memory.read_write_other _ _ (Ne.symm h)
    all_goals rfl

theorem State.sameBytes_write (s : State) (a : Word) (v : Byte) : SameBytesBut [a] s (s.write a v) :=
  fun k _ hb => State.read_write_other s a v k (hb a (by simp))

/-! ## The stack -/

@[simp] theorem State.read_push (s : State) (v : Byte) (k : AccessKind) (a : Word) :
    (s.push v).read k a = (s.write (stackAddr s.sp) v).read k a := rfl

/-- The stack address as a number (10_state.md R26). -/
theorem stackAddr_toNat (sp : Byte) : (stackAddr sp).toNat = 0x100 + sp.toNat := by
  unfold stackAddr zext16
  simp only [BitVec.ofNat_eq_ofNat, BitVec.toNat_add, BitVec.toNat_setWidth, BitVec.toNat_ofNat]
  have := sp.isLt
  omega

/-- Different values of S designate different locations, on every part. -/
theorem cellOf_stackAddr_ne (cfg : Config) {p q : Byte} (h : p ≠ q) :
    cellOf cfg (stackAddr p) ≠ cellOf cfg (stackAddr q) := by
  have hp := p.isLt
  have hq := q.isLt
  have hn : p.toNat ≠ q.toNat := fun e => h (BitVec.eq_of_toNat_eq e)
  unfold cellOf
  rw [stackAddr_toNat, stackAddr_toNat]
  cases cfg.addrLines <;> simp only [AddrLines.space] <;> omega

/-- A vector byte never stands at a stack location, on any part. -/
theorem cellOf_stackAddr_ne_high (cfg : Config) (p : Byte) {a : Word} (h : 0xFF00 ≤ a.toNat) :
    cellOf cfg (stackAddr p) ≠ cellOf cfg a := by
  have hp := p.isLt
  have ha := a.isLt
  unfold cellOf
  rw [stackAddr_toNat]
  cases cfg.addrLines <;> simp only [AddrLines.space] <;> omega

/-! ## The operations of an instruction keep the invariant -/

theorem State.Inv_log {s : State} (h : s.Inv) (l : List BusAccess) : (s.log l).Inv := h
theorem State.Inv_set {s : State} (h : s.Inv) (r : Reg) (v : Byte) : (s.set r v).Inv := by cases r <;> exact h
theorem State.Inv_setP {s : State} (h : s.Inv) (f : Flags) : (s.setP f).Inv := h
theorem State.Inv_jump {s : State} (h : s.Inv) (w : Word) : (s.jump w).Inv := h
theorem State.Inv_advance {s : State} (h : s.Inv) (n : Nat) : (s.advance n).Inv := h
theorem State.Inv_push {s : State} (h : s.Inv) (v : Byte) : (s.push v).Inv := State.Inv_write h _ _
theorem State.Inv_pushWord {s : State} (h : s.Inv) (w : Word) : (s.pushWord w).Inv :=
  State.Inv_push (State.Inv_push h _) _
theorem State.Inv_interrupt {s : State} (h : s.Inv) (vector : Word) (b : Bool) (ret : Word) :
    (s.interrupt vector b ret).Inv :=
  State.Inv_congr (s := (s.pushWord ret).push (s.p.pByte b)) rfl rfl (State.Inv_push (State.Inv_pushWord h _) _)

/-! ## The boundary -/

/-- Pin changes move the lines and the NMI latch alone. -/
theorem State.driveAll_eq (l : List PinChange) (s : State) :
    s.driveAll l = { s with lines := (s.driveAll l).lines, nmiPending := (s.driveAll l).nmiPending } := by
  induction l generalizing s with
  | nil => rfl
  | cons ch l ih =>
    have hd : s.drive ch = { s with lines := (s.drive ch).lines, nmiPending := (s.drive ch).nmiPending } := by
      unfold State.drive
      cases ch.line <;> rfl
    have e : s.driveAll (ch :: l) = (s.drive ch).driveAll l := rfl
    rw [e, ih (s.drive ch)]
    rw [hd]

/-- A pin change puts its own line at its level and leaves the others (10_state.md R43). -/
@[simp] theorem State.level_drive (s : State) (ch : PinChange) (l : Line) :
    (s.drive ch).lines.level l = if ch.line = l then ch.level else s.lines.level l := by
  unfold State.drive
  rcases ch with ⟨cl, lv⟩
  cases cl <;> cases l <;> simp [Lines.level]

theorem State.driveAll_append (s : State) (l m : List PinChange) :
    s.driveAll (l ++ m) = (s.driveAll l).driveAll m := by
  simp [State.driveAll, List.foldl_append]

/-- The boundary leaves registers, flags, memory and parameters. -/
theorem State.boundary_eq (s : State) :
    s.boundary =
      { s with
        lines := s.boundary.lines
        nmiPending := s.boundary.nmiPending
        inputs := s.inputs.tail
        tick := s.tick + 1
        bus := [] } := by
  unfold State.boundary
  rw [State.driveAll_eq]

@[simp] theorem State.boundary_tick (s : State) : s.boundary.tick = s.tick + 1 := rfl
@[simp] theorem State.boundary_inputs (s : State) : s.boundary.inputs = s.inputs.tail := rfl
@[simp] theorem State.boundary_bus (s : State) : s.boundary.bus = [] := rfl
@[simp] theorem State.boundary_a (s : State) : s.boundary.a = s.a := by rw [State.boundary_eq]
@[simp] theorem State.boundary_x (s : State) : s.boundary.x = s.x := by rw [State.boundary_eq]
@[simp] theorem State.boundary_y (s : State) : s.boundary.y = s.y := by rw [State.boundary_eq]
@[simp] theorem State.boundary_sp (s : State) : s.boundary.sp = s.sp := by rw [State.boundary_eq]
@[simp] theorem State.boundary_pc (s : State) : s.boundary.pc = s.pc := by rw [State.boundary_eq]
@[simp] theorem State.boundary_p (s : State) : s.boundary.p = s.p := by rw [State.boundary_eq]
@[simp] theorem State.boundary_halted (s : State) : s.boundary.halted = s.halted := by rw [State.boundary_eq]
@[simp] theorem State.boundary_mem (s : State) : s.boundary.mem = s.mem := by rw [State.boundary_eq]
@[simp] theorem State.boundary_lateI (s : State) : s.boundary.lateI = s.lateI := by rw [State.boundary_eq]
@[simp] theorem State.boundary_cfg (s : State) : s.boundary.cfg = s.cfg := by rw [State.boundary_eq]

theorem State.Inv_boundary {s : State} (h : s.Inv) : s.boundary.Inv :=
  State.Inv_congr (State.boundary_mem s) (State.boundary_cfg s) h

/-- What a step can do, said once. -/
theorem step_cases {s t : State} (h : step s = .next t) :
    (s.boundary.choice = .reset ∧ t = s.boundary.begun.resetSequence) ∨
    (s.boundary.choice = .halted ∧ s.inputs ≠ [] ∧ t = s.boundary.begun) ∨
    (s.boundary.choice = .nmi ∧ t = s.boundary.begun.takeNmi) ∨
    (s.boundary.choice = .irq ∧ t = s.boundary.begun.takeIrq) ∨
    (s.boundary.choice = .instruction ∧ exec s.boundary.fetched s.boundary.afterFetch = .next t) := by
  unfold step at h
  simp only at h
  split at h
  · next hc => exact .inl ⟨hc, by simpa using h.symm⟩
  · next hc =>
    split at h
    · cases h
    · next hi => exact .inr (.inl ⟨hc, by simpa using hi, by simpa using h.symm⟩)
  · next hc => exact .inr (.inr (.inl ⟨hc, by simpa using h.symm⟩))
  · next hc => exact .inr (.inr (.inr (.inl ⟨hc, by simpa using h.symm⟩)))
  · next hc => exact .inr (.inr (.inr (.inr ⟨hc, h⟩)))

/-! ## The plain 6502 -/

/-- The plain 6502 has RAM at every address (log 10). -/
theorem kindAt_part6502 (a : Word) : kindAt Config.part6502 a = .ram := by
  have ha : cellOf Config.part6502 a < 0 + 0x10000 := cellOf_lt Config.part6502 a
  show kindIn [⟨0, 0x10000, .ram⟩] (cellOf Config.part6502 a) = .ram
  simp only [kindIn]
  exact if_pos ⟨Nat.zero_le _, ha⟩

theorem stackIsRam_part6502 {s : State} (h : s.cfg = Config.part6502) : StackIsRam s := fun sp => by
  rw [h]
  exact kindAt_part6502 _

/-- The reset state satisfies the canonical form of memory. -/
theorem reset_mem_wf : State.reset.mem.wf := ⟨List.Pairwise.nil, fun _ h => by cases h⟩

end Sys2Proof.Machine
end

