-- ==== Sys2Proof/Laws/PerInstr.lean ====
section
/-! SUPPORT. Statements made for every instruction, with one lemma for each constructor of `Instr`. -/

namespace Sys2Proof.Laws.EncodedLength

/-- The encoding of an instruction has as many bytes as its operand form says, from one to three
(30_encoding.md R91). -/
def Statement (i : Instr) : Prop := (encode i).length = i.length ∧ 1 ≤ i.length ∧ i.length ≤ 3

/-- The lengths as numbers give the statement. -/
theorem of_length {i : Instr} (n : Nat) (h : 1 ≤ n ∧ n ≤ 3) (hi : i.length = n) (he : (encode i).length = n) :
    Statement i := ⟨he.trans hi.symm, hi.symm ▸ h⟩

theorem brk : Statement .brk := of_length 1 (by decide) rfl rfl
theorem oraIzx (nn : Byte) : Statement (.oraIzx nn) := of_length 2 (by decide) rfl rfl
theorem kil02 : Statement .kil02 := of_length 1 (by decide) rfl rfl
theorem sloIzx (nn : Byte) : Statement (.sloIzx nn) := of_length 2 (by decide) rfl rfl
theorem nopZp04 (nn : Byte) : Statement (.nopZp04 nn) := of_length 2 (by decide) rfl rfl
theorem oraZp (nn : Byte) : Statement (.oraZp nn) := of_length 2 (by decide) rfl rfl
theorem aslZp (nn : Byte) : Statement (.aslZp nn) := of_length 2 (by decide) rfl rfl
theorem sloZp (nn : Byte) : Statement (.sloZp nn) := of_length 2 (by decide) rfl rfl
theorem php : Statement .php := of_length 1 (by decide) rfl rfl
theorem oraImm (nn : Byte) : Statement (.oraImm nn) := of_length 2 (by decide) rfl rfl
theorem aslAcc : Statement .aslAcc := of_length 1 (by decide) rfl rfl
theorem anc0B (nn : Byte) : Statement (.anc0B nn) := of_length 2 (by decide) rfl rfl
theorem nopAbs0C (nnnn : Word) : Statement (.nopAbs0C nnnn) := of_length 3 (by decide) rfl rfl
theorem oraAbs (nnnn : Word) : Statement (.oraAbs nnnn) := of_length 3 (by decide) rfl rfl
theorem aslAbs (nnnn : Word) : Statement (.aslAbs nnnn) := of_length 3 (by decide) rfl rfl
theorem sloAbs (nnnn : Word) : Statement (.sloAbs nnnn) := of_length 3 (by decide) rfl rfl
theorem bpl (dd : Byte) : Statement (.bpl dd) := of_length 2 (by decide) rfl rfl
theorem oraIzy (nn : Byte) : Statement (.oraIzy nn) := of_length 2 (by decide) rfl rfl
theorem kil12 : Statement .kil12 := of_length 1 (by decide) rfl rfl
theorem sloIzy (nn : Byte) : Statement (.sloIzy nn) := of_length 2 (by decide) rfl rfl
theorem nopZpx14 (nn : Byte) : Statement (.nopZpx14 nn) := of_length 2 (by decide) rfl rfl
theorem oraZpx (nn : Byte) : Statement (.oraZpx nn) := of_length 2 (by decide) rfl rfl
theorem aslZpx (nn : Byte) : Statement (.aslZpx nn) := of_length 2 (by decide) rfl rfl
theorem sloZpx (nn : Byte) : Statement (.sloZpx nn) := of_length 2 (by decide) rfl rfl
theorem clc : Statement .clc := of_length 1 (by decide) rfl rfl
theorem oraAby (nnnn : Word) : Statement (.oraAby nnnn) := of_length 3 (by decide) rfl rfl
theorem nop1A : Statement .nop1A := of_length 1 (by decide) rfl rfl
theorem sloAby (nnnn : Word) : Statement (.sloAby nnnn) := of_length 3 (by decide) rfl rfl
theorem nopAbx1C (nnnn : Word) : Statement (.nopAbx1C nnnn) := of_length 3 (by decide) rfl rfl
theorem oraAbx (nnnn : Word) : Statement (.oraAbx nnnn) := of_length 3 (by decide) rfl rfl
theorem aslAbx (nnnn : Word) : Statement (.aslAbx nnnn) := of_length 3 (by decide) rfl rfl
theorem sloAbx (nnnn : Word) : Statement (.sloAbx nnnn) := of_length 3 (by decide) rfl rfl
theorem jsr (nnnn : Word) : Statement (.jsr nnnn) := of_length 3 (by decide) rfl rfl
theorem andIzx (nn : Byte) : Statement (.andIzx nn) := of_length 2 (by decide) rfl rfl
theorem kil22 : Statement .kil22 := of_length 1 (by decide) rfl rfl
theorem rlaIzx (nn : Byte) : Statement (.rlaIzx nn) := of_length 2 (by decide) rfl rfl
theorem bitZp (nn : Byte) : Statement (.bitZp nn) := of_length 2 (by decide) rfl rfl
theorem andZp (nn : Byte) : Statement (.andZp nn) := of_length 2 (by decide) rfl rfl
theorem rolZp (nn : Byte) : Statement (.rolZp nn) := of_length 2 (by decide) rfl rfl
theorem rlaZp (nn : Byte) : Statement (.rlaZp nn) := of_length 2 (by decide) rfl rfl
theorem plp : Statement .plp := of_length 1 (by decide) rfl rfl
theorem andImm (nn : Byte) : Statement (.andImm nn) := of_length 2 (by decide) rfl rfl
theorem rolAcc : Statement .rolAcc := of_length 1 (by decide) rfl rfl
theorem anc2B (nn : Byte) : Statement (.anc2B nn) := of_length 2 (by decide) rfl rfl
theorem bitAbs (nnnn : Word) : Statement (.bitAbs nnnn) := of_length 3 (by decide) rfl rfl
theorem andAbs (nnnn : Word) : Statement (.andAbs nnnn) := of_length 3 (by decide) rfl rfl
theorem rolAbs (nnnn : Word) : Statement (.rolAbs nnnn) := of_length 3 (by decide) rfl rfl
theorem rlaAbs (nnnn : Word) : Statement (.rlaAbs nnnn) := of_length 3 (by decide) rfl rfl
theorem bmi (dd : Byte) : Statement (.bmi dd) := of_length 2 (by decide) rfl rfl
theorem andIzy (nn : Byte) : Statement (.andIzy nn) := of_length 2 (by decide) rfl rfl
theorem kil32 : Statement .kil32 := of_length 1 (by decide) rfl rfl
theorem rlaIzy (nn : Byte) : Statement (.rlaIzy nn) := of_length 2 (by decide) rfl rfl
theorem nopZpx34 (nn : Byte) : Statement (.nopZpx34 nn) := of_length 2 (by decide) rfl rfl
theorem andZpx (nn : Byte) : Statement (.andZpx nn) := of_length 2 (by decide) rfl rfl
theorem rolZpx (nn : Byte) : Statement (.rolZpx nn) := of_length 2 (by decide) rfl rfl
theorem rlaZpx (nn : Byte) : Statement (.rlaZpx nn) := of_length 2 (by decide) rfl rfl
theorem sec : Statement .sec := of_length 1 (by decide) rfl rfl
theorem andAby (nnnn : Word) : Statement (.andAby nnnn) := of_length 3 (by decide) rfl rfl
theorem nop3A : Statement .nop3A := of_length 1 (by decide) rfl rfl
theorem rlaAby (nnnn : Word) : Statement (.rlaAby nnnn) := of_length 3 (by decide) rfl rfl
theorem nopAbx3C (nnnn : Word) : Statement (.nopAbx3C nnnn) := of_length 3 (by decide) rfl rfl
theorem andAbx (nnnn : Word) : Statement (.andAbx nnnn) := of_length 3 (by decide) rfl rfl
theorem rolAbx (nnnn : Word) : Statement (.rolAbx nnnn) := of_length 3 (by decide) rfl rfl
theorem rlaAbx (nnnn : Word) : Statement (.rlaAbx nnnn) := of_length 3 (by decide) rfl rfl
theorem rti : Statement .rti := of_length 1 (by decide) rfl rfl
theorem eorIzx (nn : Byte) : Statement (.eorIzx nn) := of_length 2 (by decide) rfl rfl
theorem kil42 : Statement .kil42 := of_length 1 (by decide) rfl rfl
theorem sreIzx (nn : Byte) : Statement (.sreIzx nn) := of_length 2 (by decide) rfl rfl
theorem nopZp44 (nn : Byte) : Statement (.nopZp44 nn) := of_length 2 (by decide) rfl rfl
theorem eorZp (nn : Byte) : Statement (.eorZp nn) := of_length 2 (by decide) rfl rfl
theorem lsrZp (nn : Byte) : Statement (.lsrZp nn) := of_length 2 (by decide) rfl rfl
theorem sreZp (nn : Byte) : Statement (.sreZp nn) := of_length 2 (by decide) rfl rfl
theorem pha : Statement .pha := of_length 1 (by decide) rfl rfl
theorem eorImm (nn : Byte) : Statement (.eorImm nn) := of_length 2 (by decide) rfl rfl
theorem lsrAcc : Statement .lsrAcc := of_length 1 (by decide) rfl rfl
theorem alr (nn : Byte) : Statement (.alr nn) := of_length 2 (by decide) rfl rfl
theorem jmpAbs (nnnn : Word) : Statement (.jmpAbs nnnn) := of_length 3 (by decide) rfl rfl
theorem eorAbs (nnnn : Word) : Statement (.eorAbs nnnn) := of_length 3 (by decide) rfl rfl
theorem lsrAbs (nnnn : Word) : Statement (.lsrAbs nnnn) := of_length 3 (by decide) rfl rfl
theorem sreAbs (nnnn : Word) : Statement (.sreAbs nnnn) := of_length 3 (by decide) rfl rfl
theorem bvc (dd : Byte) : Statement (.bvc dd) := of_length 2 (by decide) rfl rfl
theorem eorIzy (nn : Byte) : Statement (.eorIzy nn) := of_length 2 (by decide) rfl rfl
theorem kil52 : Statement .kil52 := of_length 1 (by decide) rfl rfl
theorem sreIzy (nn : Byte) : Statement (.sreIzy nn) := of_length 2 (by decide) rfl rfl
theorem nopZpx54 (nn : Byte) : Statement (.nopZpx54 nn) := of_length 2 (by decide) rfl rfl
theorem eorZpx (nn : Byte) : Statement (.eorZpx nn) := of_length 2 (by decide) rfl rfl
theorem lsrZpx (nn : Byte) : Statement (.lsrZpx nn) := of_length 2 (by decide) rfl rfl
theorem sreZpx (nn : Byte) : Statement (.sreZpx nn) := of_length 2 (by decide) rfl rfl
theorem cli : Statement .cli := of_length 1 (by decide) rfl rfl
theorem eorAby (nnnn : Word) : Statement (.eorAby nnnn) := of_length 3 (by decide) rfl rfl
theorem nop5A : Statement .nop5A := of_length 1 (by decide) rfl rfl
theorem sreAby (nnnn : Word) : Statement (.sreAby nnnn) := of_length 3 (by decide) rfl rfl
theorem nopAbx5C (nnnn : Word) : Statement (.nopAbx5C nnnn) := of_length 3 (by decide) rfl rfl
theorem eorAbx (nnnn : Word) : Statement (.eorAbx nnnn) := of_length 3 (by decide) rfl rfl
theorem lsrAbx (nnnn : Word) : Statement (.lsrAbx nnnn) := of_length 3 (by decide) rfl rfl
theorem sreAbx (nnnn : Word) : Statement (.sreAbx nnnn) := of_length 3 (by decide) rfl rfl
theorem rts : Statement .rts := of_length 1 (by decide) rfl rfl
theorem adcIzx (nn : Byte) : Statement (.adcIzx nn) := of_length 2 (by decide) rfl rfl
theorem kil62 : Statement .kil62 := of_length 1 (by decide) rfl rfl
theorem rraIzx (nn : Byte) : Statement (.rraIzx nn) := of_length 2 (by decide) rfl rfl
theorem nopZp64 (nn : Byte) : Statement (.nopZp64 nn) := of_length 2 (by decide) rfl rfl
theorem adcZp (nn : Byte) : Statement (.adcZp nn) := of_length 2 (by decide) rfl rfl
theorem rorZp (nn : Byte) : Statement (.rorZp nn) := of_length 2 (by decide) rfl rfl
theorem rraZp (nn : Byte) : Statement (.rraZp nn) := of_length 2 (by decide) rfl rfl
theorem pla : Statement .pla := of_length 1 (by decide) rfl rfl
theorem adcImm (nn : Byte) : Statement (.adcImm nn) := of_length 2 (by decide) rfl rfl
theorem rorAcc : Statement .rorAcc := of_length 1 (by decide) rfl rfl
theorem arr (nn : Byte) : Statement (.arr nn) := of_length 2 (by decide) rfl rfl
theorem jmpInd (nnnn : Word) : Statement (.jmpInd nnnn) := of_length 3 (by decide) rfl rfl
theorem adcAbs (nnnn : Word) : Statement (.adcAbs nnnn) := of_length 3 (by decide) rfl rfl
theorem rorAbs (nnnn : Word) : Statement (.rorAbs nnnn) := of_length 3 (by decide) rfl rfl
theorem rraAbs (nnnn : Word) : Statement (.rraAbs nnnn) := of_length 3 (by decide) rfl rfl
theorem bvs (dd : Byte) : Statement (.bvs dd) := of_length 2 (by decide) rfl rfl
theorem adcIzy (nn : Byte) : Statement (.adcIzy nn) := of_length 2 (by decide) rfl rfl
theorem kil72 : Statement .kil72 := of_length 1 (by decide) rfl rfl
theorem rraIzy (nn : Byte) : Statement (.rraIzy nn) := of_length 2 (by decide) rfl rfl
theorem nopZpx74 (nn : Byte) : Statement (.nopZpx74 nn) := of_length 2 (by decide) rfl rfl
theorem adcZpx (nn : Byte) : Statement (.adcZpx nn) := of_length 2 (by decide) rfl rfl
theorem rorZpx (nn : Byte) : Statement (.rorZpx nn) := of_length 2 (by decide) rfl rfl
theorem rraZpx (nn : Byte) : Statement (.rraZpx nn) := of_length 2 (by decide) rfl rfl
theorem sei : Statement .sei := of_length 1 (by decide) rfl rfl
theorem adcAby (nnnn : Word) : Statement (.adcAby nnnn) := of_length 3 (by decide) rfl rfl
theorem nop7A : Statement .nop7A := of_length 1 (by decide) rfl rfl
theorem rraAby (nnnn : Word) : Statement (.rraAby nnnn) := of_length 3 (by decide) rfl rfl
theorem nopAbx7C (nnnn : Word) : Statement (.nopAbx7C nnnn) := of_length 3 (by decide) rfl rfl
theorem adcAbx (nnnn : Word) : Statement (.adcAbx nnnn) := of_length 3 (by decide) rfl rfl
theorem rorAbx (nnnn : Word) : Statement (.rorAbx nnnn) := of_length 3 (by decide) rfl rfl
theorem rraAbx (nnnn : Word) : Statement (.rraAbx nnnn) := of_length 3 (by decide) rfl rfl
theorem nopImm80 (nn : Byte) : Statement (.nopImm80 nn) := of_length 2 (by decide) rfl rfl
theorem staIzx (nn : Byte) : Statement (.staIzx nn) := of_length 2 (by decide) rfl rfl
theorem nopImm82 (nn : Byte) : Statement (.nopImm82 nn) := of_length 2 (by decide) rfl rfl
theorem saxIzx (nn : Byte) : Statement (.saxIzx nn) := of_length 2 (by decide) rfl rfl
theorem styZp (nn : Byte) : Statement (.styZp nn) := of_length 2 (by decide) rfl rfl
theorem staZp (nn : Byte) : Statement (.staZp nn) := of_length 2 (by decide) rfl rfl
theorem stxZp (nn : Byte) : Statement (.stxZp nn) := of_length 2 (by decide) rfl rfl
theorem saxZp (nn : Byte) : Statement (.saxZp nn) := of_length 2 (by decide) rfl rfl
theorem dey : Statement .dey := of_length 1 (by decide) rfl rfl
theorem nopImm89 (nn : Byte) : Statement (.nopImm89 nn) := of_length 2 (by decide) rfl rfl
theorem txa : Statement .txa := of_length 1 (by decide) rfl rfl
theorem xaa (nn : Byte) : Statement (.xaa nn) := of_length 2 (by decide) rfl rfl
theorem styAbs (nnnn : Word) : Statement (.styAbs nnnn) := of_length 3 (by decide) rfl rfl
theorem staAbs (nnnn : Word) : Statement (.staAbs nnnn) := of_length 3 (by decide) rfl rfl
theorem stxAbs (nnnn : Word) : Statement (.stxAbs nnnn) := of_length 3 (by decide) rfl rfl
theorem saxAbs (nnnn : Word) : Statement (.saxAbs nnnn) := of_length 3 (by decide) rfl rfl
theorem bcc (dd : Byte) : Statement (.bcc dd) := of_length 2 (by decide) rfl rfl
theorem staIzy (nn : Byte) : Statement (.staIzy nn) := of_length 2 (by decide) rfl rfl
theorem kil92 : Statement .kil92 := of_length 1 (by decide) rfl rfl
theorem ahxIzy (nn : Byte) : Statement (.ahxIzy nn) := of_length 2 (by decide) rfl rfl
theorem styZpx (nn : Byte) : Statement (.styZpx nn) := of_length 2 (by decide) rfl rfl
theorem staZpx (nn : Byte) : Statement (.staZpx nn) := of_length 2 (by decide) rfl rfl
theorem stxZpy (nn : Byte) : Statement (.stxZpy nn) := of_length 2 (by decide) rfl rfl
theorem saxZpy (nn : Byte) : Statement (.saxZpy nn) := of_length 2 (by decide) rfl rfl
theorem tya : Statement .tya := of_length 1 (by decide) rfl rfl
theorem staAby (nnnn : Word) : Statement (.staAby nnnn) := of_length 3 (by decide) rfl rfl
theorem txs : Statement .txs := of_length 1 (by decide) rfl rfl
theorem tas (nnnn : Word) : Statement (.tas nnnn) := of_length 3 (by decide) rfl rfl
theorem shy (nnnn : Word) : Statement (.shy nnnn) := of_length 3 (by decide) rfl rfl
theorem staAbx (nnnn : Word) : Statement (.staAbx nnnn) := of_length 3 (by decide) rfl rfl
theorem shx (nnnn : Word) : Statement (.shx nnnn) := of_length 3 (by decide) rfl rfl
theorem ahxAby (nnnn : Word) : Statement (.ahxAby nnnn) := of_length 3 (by decide) rfl rfl
theorem ldyImm (nn : Byte) : Statement (.ldyImm nn) := of_length 2 (by decide) rfl rfl
theorem ldaIzx (nn : Byte) : Statement (.ldaIzx nn) := of_length 2 (by decide) rfl rfl
theorem ldxImm (nn : Byte) : Statement (.ldxImm nn) := of_length 2 (by decide) rfl rfl
theorem laxIzx (nn : Byte) : Statement (.laxIzx nn) := of_length 2 (by decide) rfl rfl
theorem ldyZp (nn : Byte) : Statement (.ldyZp nn) := of_length 2 (by decide) rfl rfl
theorem ldaZp (nn : Byte) : Statement (.ldaZp nn) := of_length 2 (by decide) rfl rfl
theorem ldxZp (nn : Byte) : Statement (.ldxZp nn) := of_length 2 (by decide) rfl rfl
theorem laxZp (nn : Byte) : Statement (.laxZp nn) := of_length 2 (by decide) rfl rfl
theorem tay : Statement .tay := of_length 1 (by decide) rfl rfl
theorem ldaImm (nn : Byte) : Statement (.ldaImm nn) := of_length 2 (by decide) rfl rfl
theorem tax : Statement .tax := of_length 1 (by decide) rfl rfl
theorem laxImm (nn : Byte) : Statement (.laxImm nn) := of_length 2 (by decide) rfl rfl
theorem ldyAbs (nnnn : Word) : Statement (.ldyAbs nnnn) := of_length 3 (by decide) rfl rfl
theorem ldaAbs (nnnn : Word) : Statement (.ldaAbs nnnn) := of_length 3 (by decide) rfl rfl
theorem ldxAbs (nnnn : Word) : Statement (.ldxAbs nnnn) := of_length 3 (by decide) rfl rfl
theorem laxAbs (nnnn : Word) : Statement (.laxAbs nnnn) := of_length 3 (by decide) rfl rfl
theorem bcs (dd : Byte) : Statement (.bcs dd) := of_length 2 (by decide) rfl rfl
theorem ldaIzy (nn : Byte) : Statement (.ldaIzy nn) := of_length 2 (by decide) rfl rfl
theorem kilB2 : Statement .kilB2 := of_length 1 (by decide) rfl rfl
theorem laxIzy (nn : Byte) : Statement (.laxIzy nn) := of_length 2 (by decide) rfl rfl
theorem ldyZpx (nn : Byte) : Statement (.ldyZpx nn) := of_length 2 (by decide) rfl rfl
theorem ldaZpx (nn : Byte) : Statement (.ldaZpx nn) := of_length 2 (by decide) rfl rfl
theorem ldxZpy (nn : Byte) : Statement (.ldxZpy nn) := of_length 2 (by decide) rfl rfl
theorem laxZpy (nn : Byte) : Statement (.laxZpy nn) := of_length 2 (by decide) rfl rfl
theorem clv : Statement .clv := of_length 1 (by decide) rfl rfl
theorem ldaAby (nnnn : Word) : Statement (.ldaAby nnnn) := of_length 3 (by decide) rfl rfl
theorem tsx : Statement .tsx := of_length 1 (by decide) rfl rfl
theorem las (nnnn : Word) : Statement (.las nnnn) := of_length 3 (by decide) rfl rfl
theorem ldyAbx (nnnn : Word) : Statement (.ldyAbx nnnn) := of_length 3 (by decide) rfl rfl
theorem ldaAbx (nnnn : Word) : Statement (.ldaAbx nnnn) := of_length 3 (by decide) rfl rfl
theorem ldxAby (nnnn : Word) : Statement (.ldxAby nnnn) := of_length 3 (by decide) rfl rfl
theorem laxAbx (nnnn : Word) : Statement (.laxAbx nnnn) := of_length 3 (by decide) rfl rfl
theorem cpyImm (nn : Byte) : Statement (.cpyImm nn) := of_length 2 (by decide) rfl rfl
theorem cmpIzx (nn : Byte) : Statement (.cmpIzx nn) := of_length 2 (by decide) rfl rfl
theorem nopImmC2 (nn : Byte) : Statement (.nopImmC2 nn) := of_length 2 (by decide) rfl rfl
theorem dcpIzx (nn : Byte) : Statement (.dcpIzx nn) := of_length 2 (by decide) rfl rfl
theorem cpyZp (nn : Byte) : Statement (.cpyZp nn) := of_length 2 (by decide) rfl rfl
theorem cmpZp (nn : Byte) : Statement (.cmpZp nn) := of_length 2 (by decide) rfl rfl
theorem decZp (nn : Byte) : Statement (.decZp nn) := of_length 2 (by decide) rfl rfl
theorem dcpZp (nn : Byte) : Statement (.dcpZp nn) := of_length 2 (by decide) rfl rfl
theorem iny : Statement .iny := of_length 1 (by decide) rfl rfl
theorem cmpImm (nn : Byte) : Statement (.cmpImm nn) := of_length 2 (by decide) rfl rfl
theorem dex : Statement .dex := of_length 1 (by decide) rfl rfl
theorem axs (nn : Byte) : Statement (.axs nn) := of_length 2 (by decide) rfl rfl
theorem cpyAbs (nnnn : Word) : Statement (.cpyAbs nnnn) := of_length 3 (by decide) rfl rfl
theorem cmpAbs (nnnn : Word) : Statement (.cmpAbs nnnn) := of_length 3 (by decide) rfl rfl
theorem decAbs (nnnn : Word) : Statement (.decAbs nnnn) := of_length 3 (by decide) rfl rfl
theorem dcpAbs (nnnn : Word) : Statement (.dcpAbs nnnn) := of_length 3 (by decide) rfl rfl
theorem bne (dd : Byte) : Statement (.bne dd) := of_length 2 (by decide) rfl rfl
theorem cmpIzy (nn : Byte) : Statement (.cmpIzy nn) := of_length 2 (by decide) rfl rfl
theorem kilD2 : Statement .kilD2 := of_length 1 (by decide) rfl rfl
theorem dcpIzy (nn : Byte) : Statement (.dcpIzy nn) := of_length 2 (by decide) rfl rfl
theorem nopZpxD4 (nn : Byte) : Statement (.nopZpxD4 nn) := of_length 2 (by decide) rfl rfl
theorem cmpZpx (nn : Byte) : Statement (.cmpZpx nn) := of_length 2 (by decide) rfl rfl
theorem decZpx (nn : Byte) : Statement (.decZpx nn) := of_length 2 (by decide) rfl rfl
theorem dcpZpx (nn : Byte) : Statement (.dcpZpx nn) := of_length 2 (by decide) rfl rfl
theorem cld : Statement .cld := of_length 1 (by decide) rfl rfl
theorem cmpAby (nnnn : Word) : Statement (.cmpAby nnnn) := of_length 3 (by decide) rfl rfl
theorem nopDA : Statement .nopDA := of_length 1 (by decide) rfl rfl
theorem dcpAby (nnnn : Word) : Statement (.dcpAby nnnn) := of_length 3 (by decide) rfl rfl
theorem nopAbxDC (nnnn : Word) : Statement (.nopAbxDC nnnn) := of_length 3 (by decide) rfl rfl
theorem cmpAbx (nnnn : Word) : Statement (.cmpAbx nnnn) := of_length 3 (by decide) rfl rfl
theorem decAbx (nnnn : Word) : Statement (.decAbx nnnn) := of_length 3 (by decide) rfl rfl
theorem dcpAbx (nnnn : Word) : Statement (.dcpAbx nnnn) := of_length 3 (by decide) rfl rfl
theorem cpxImm (nn : Byte) : Statement (.cpxImm nn) := of_length 2 (by decide) rfl rfl
theorem sbcIzx (nn : Byte) : Statement (.sbcIzx nn) := of_length 2 (by decide) rfl rfl
theorem nopImmE2 (nn : Byte) : Statement (.nopImmE2 nn) := of_length 2 (by decide) rfl rfl
theorem iscIzx (nn : Byte) : Statement (.iscIzx nn) := of_length 2 (by decide) rfl rfl
theorem cpxZp (nn : Byte) : Statement (.cpxZp nn) := of_length 2 (by decide) rfl rfl
theorem sbcZp (nn : Byte) : Statement (.sbcZp nn) := of_length 2 (by decide) rfl rfl
theorem incZp (nn : Byte) : Statement (.incZp nn) := of_length 2 (by decide) rfl rfl
theorem iscZp (nn : Byte) : Statement (.iscZp nn) := of_length 2 (by decide) rfl rfl
theorem inx : Statement .inx := of_length 1 (by decide) rfl rfl
theorem sbcImm (nn : Byte) : Statement (.sbcImm nn) := of_length 2 (by decide) rfl rfl
theorem nop : Statement .nop := of_length 1 (by decide) rfl rfl
theorem sbcImmEB (nn : Byte) : Statement (.sbcImmEB nn) := of_length 2 (by decide) rfl rfl
theorem cpxAbs (nnnn : Word) : Statement (.cpxAbs nnnn) := of_length 3 (by decide) rfl rfl
theorem sbcAbs (nnnn : Word) : Statement (.sbcAbs nnnn) := of_length 3 (by decide) rfl rfl
theorem incAbs (nnnn : Word) : Statement (.incAbs nnnn) := of_length 3 (by decide) rfl rfl
theorem iscAbs (nnnn : Word) : Statement (.iscAbs nnnn) := of_length 3 (by decide) rfl rfl
theorem beq (dd : Byte) : Statement (.beq dd) := of_length 2 (by decide) rfl rfl
theorem sbcIzy (nn : Byte) : Statement (.sbcIzy nn) := of_length 2 (by decide) rfl rfl
theorem kilF2 : Statement .kilF2 := of_length 1 (by decide) rfl rfl
theorem iscIzy (nn : Byte) : Statement (.iscIzy nn) := of_length 2 (by decide) rfl rfl
theorem nopZpxF4 (nn : Byte) : Statement (.nopZpxF4 nn) := of_length 2 (by decide) rfl rfl
theorem sbcZpx (nn : Byte) : Statement (.sbcZpx nn) := of_length 2 (by decide) rfl rfl
theorem incZpx (nn : Byte) : Statement (.incZpx nn) := of_length 2 (by decide) rfl rfl
theorem iscZpx (nn : Byte) : Statement (.iscZpx nn) := of_length 2 (by decide) rfl rfl
theorem sed : Statement .sed := of_length 1 (by decide) rfl rfl
theorem sbcAby (nnnn : Word) : Statement (.sbcAby nnnn) := of_length 3 (by decide) rfl rfl
theorem nopFA : Statement .nopFA := of_length 1 (by decide) rfl rfl
theorem iscAby (nnnn : Word) : Statement (.iscAby nnnn) := of_length 3 (by decide) rfl rfl
theorem nopAbxFC (nnnn : Word) : Statement (.nopAbxFC nnnn) := of_length 3 (by decide) rfl rfl
theorem sbcAbx (nnnn : Word) : Statement (.sbcAbx nnnn) := of_length 3 (by decide) rfl rfl
theorem incAbx (nnnn : Word) : Statement (.incAbx nnnn) := of_length 3 (by decide) rfl rfl
theorem iscAbx (nnnn : Word) : Statement (.iscAbx nnnn) := of_length 3 (by decide) rfl rfl

end Sys2Proof.Laws.EncodedLength
end

