-- ==== Sys2Proof/Laws/Shared.lean ====
section
/-! SUPPORT. What each shared operation of Machine/Shared.lean does, said once as one record update: a field not
named is as before. Proofs about instructions cite these instead of unfolding the operations. -/

namespace Sys2Proof.Machine

/-! ## Bytes that stay -/

/-- Nothing written: every byte reads as before. -/
theorem sameBytes_of_mem {s t : State} (hm : t.mem = s.mem) (ht : t.tick = s.tick) (hc : t.cfg = s.cfg) :
    SameBytesBut [] s t := fun k b _ => State.read_congr hm ht hc k b

/-- One byte written: every byte at another location reads as before. -/
theorem sameBytes_of_write {s t : State} {a : Word} {v : Byte} (hm : t.mem = s.memAfterWrite a v)
    (ht : t.tick = s.tick) (hc : t.cfg = s.cfg) : SameBytesBut [a] s t := fun k b hb => by
  rw [← State.sameBytes_write s a v k b hb]
  exact State.read_congr (s := s.write a v) hm ht hc k b

/-- One more byte written. -/
theorem sameBytes_then_write {s t : State} {l : List Word} (h : SameBytesBut l s t) (hc : t.cfg = s.cfg) (a : Word)
    (v : Byte) : SameBytesBut (l ++ [a]) s (t.write a v) := fun k b hb => by
  rw [State.read_write_other t a v k (hc ▸ hb a (by simp))]
  exact h k b fun c hm => hb c (by simp [hm])

/-! ## Loads, transfers, stores -/

theorem load_eq (r : Reg) (o : Operand) (s : State) :
    load r o s =
      { s.set r (o.value s) with
        p := s.p.setNZ (o.value s)
        pc := s.pc + BitVec.ofNat 16 o.length
        bus := s.bus ++ o.reads s } := by
  cases r <;> rfl

theorem transfer_eq (dst src : Reg) (s : State) :
    transfer dst src s = { s.set dst (s.get src) with p := s.p.setNZ (s.get src), pc := s.pc + 1 } := by
  cases dst <;> rfl

theorem store_eq (f : AddrForm) (v : Byte) (s : State) :
    store f v s =
      { s with
        mem := s.memAfterWrite (f.ea s) v
        pc := s.pc + BitVec.ofNat 16 f.length
        bus := s.bus ++ f.pointerReads s ++ [s.wrOf (f.ea s) v] } := rfl

/-! ## The accumulator -/

/-- Binary addition where decimal arithmetic is not in force. -/
theorem State.adc_binary {s : State} (h : s.decimalOn = false) (m : Byte) : s.adc m = s.adcCore m := by
  simp [State.adc, h]

theorem State.adc_decimal {s : State} (h : s.decimalOn = true) (m : Byte) : s.adc m = s.adcDecimal m := by
  simp [State.adc, h]

theorem State.sbc_binary {s : State} (h : s.decimalOn = false) (m : Byte) : s.sbc m = s.sbcCore m := by
  simp [State.sbc, h]

theorem State.sbc_decimal {s : State} (h : s.decimalOn = true) (m : Byte) : s.sbc m = s.sbcDecimal m := by
  simp [State.sbc, h]

theorem State.adcCore_eq (s : State) (m : Byte) :
    s.adcCore m =
      { s with
        a := (addBinary s.a m s.p.c).value
        p := { s.p with
               n := (addBinary s.a m s.p.c).value.getLsbD 7
               z := decide ((addBinary s.a m s.p.c).value = 0)
               c := (addBinary s.a m s.p.c).carry
               v := (addBinary s.a m s.p.c).overflow } } := rfl

theorem State.sbcCore_eq (s : State) (m : Byte) :
    s.sbcCore m =
      { s with
        a := (subBinary s.a m s.p.c).value
        p := { s.p with
               n := (subBinary s.a m s.p.c).value.getLsbD 7
               z := decide ((subBinary s.a m s.p.c).value = 0)
               c := (subBinary s.a m s.p.c).carry
               v := (subBinary s.a m s.p.c).overflow } } := rfl

/-- Addition, binary or decimal, changes A and the flags N, Z, C, V alone. -/
theorem State.adc_frame (s : State) (m : Byte) :
    s.adc m = { s with a := (s.adc m).a, p := { (s.adc m).p with d := s.p.d, i := s.p.i } } := by
  unfold State.adc
  split <;> rfl

/-- Subtraction, binary or decimal, changes A and the flags N, Z, C, V alone. -/
theorem State.sbc_frame (s : State) (m : Byte) :
    s.sbc m = { s with a := (s.sbc m).a, p := { (s.sbc m).p with d := s.p.d, i := s.p.i } } := by
  unfold State.sbc
  split <;> rfl

/-- ARR, binary or decimal, changes A and the flags N, Z, C, V alone. -/
theorem State.arr_frame (s : State) (m : Byte) :
    s.arr m = { s with a := (s.arr m).a, p := { (s.arr m).p with d := s.p.d, i := s.p.i } } := by
  unfold State.arr
  split <;> rfl

theorem State.compareWith_eq (s : State) (r : Reg) (m : Byte) :
    s.compareWith r m =
      { s with
        p := { s.p with
               n := (s.get r - m).getLsbD 7, z := decide (s.get r - m = 0), c := decide (m.toNat ≤ (s.get r).toNat) } } :=
  rfl

/-- An operation on an operand is the operation, after the operand is read and before PC moves on. -/
theorem withOperand_eq (g : State → Byte → State) (o : Operand) (s : State) :
    withOperand g o s = (g (s.log (o.reads s)) (o.value s)).advance o.length := rfl

/-! ## Read-modify-write -/

theorem State.rmw_eq (s : State) (f : AddrForm) (v : Byte) :
    s.rmw f v =
      { s with mem := s.memAfterWrite (f.ea s) v, bus := s.bus ++ f.reads s ++ [s.wrOf (f.ea s) v] } := rfl

theorem stepMem_eq (g : Byte → Byte) (f : AddrForm) (s : State) :
    stepMem g f s =
      { s with
        mem := s.memAfterWrite (f.ea s) (g (f.value s))
        p := s.p.setNZ (g (f.value s))
        pc := s.pc + BitVec.ofNat 16 f.length
        bus := s.bus ++ f.reads s ++ [s.wrOf (f.ea s) (g (f.value s))] } := rfl

theorem stepReg_eq (g : Byte → Byte) (r : Reg) (s : State) :
    stepReg g r s = { s.set r (g (s.get r)) with p := s.p.setNZ (g (s.get r)), pc := s.pc + 1 } := by
  cases r <;> rfl

theorem shiftAcc_eq (op : Byte → Bool → Shifted) (s : State) :
    shiftAcc op s =
      { s with
        a := (op s.a s.p.c).value
        p := { s.p with
               n := (op s.a s.p.c).value.getLsbD 7, z := decide ((op s.a s.p.c).value = 0), c := (op s.a s.p.c).carry }
        pc := s.pc + 1 } := rfl

theorem shiftMem_eq (op : Byte → Bool → Shifted) (f : AddrForm) (s : State) :
    shiftMem op f s =
      { s with
        mem := s.memAfterWrite (f.ea s) (op (f.value s) s.p.c).value
        p := { s.p with
               n := (op (f.value s) s.p.c).value.getLsbD 7
               z := decide ((op (f.value s) s.p.c).value = 0)
               c := (op (f.value s) s.p.c).carry }
        pc := s.pc + BitVec.ofNat 16 f.length
        bus := s.bus ++ f.reads s ++ [s.wrOf (f.ea s) (op (f.value s) s.p.c).value] } := rfl

/-- The shift or rotate of SLO, RLA, SRE, RRA, then the step on A, then PC. -/
theorem shiftThen_eq (op : Byte → Bool → Shifted) (g : State → Byte → State) (f : AddrForm) (s : State) :
    shiftThen op g f s =
      (g ((s.rmw f (op (f.value s) s.p.c).value).setC (op (f.value s) s.p.c).carry)
        (op (f.value s) s.p.c).value).advance f.length := rfl

/-- The increment or decrement of ISC and DCP, then the step on A, then PC. -/
theorem stepThen_eq (h : Byte → Byte) (g : State → Byte → State) (f : AddrForm) (s : State) :
    stepThen h g f s = (g (s.rmw f (h (f.value s))) (h (f.value s))).advance f.length := rfl

/-- A part that has ROR performs it. -/
theorem ifRor_next {s t u : State} (h : ifRor s t = .next u) : u = t ∧ s.cfg.hasRor = true := by
  unfold ifRor at h
  split at h
  · next hr => exact ⟨by cases h; rfl, hr⟩
  · cases h

/-! ## Control and the illegal opcodes -/

theorem branch_eq (taken : Bool) (dd : Byte) (s : State) :
    branch taken dd s = { s with pc := if taken then s.branchTarget dd else s.pc + 2 } := by
  cases taken <;> rfl

theorem setFlags_eq (f : Flags) (s : State) : setFlags f s = { s with p := f, pc := s.pc + 1 } := rfl

theorem unstableStore_eq (f : AddrForm) (s : State) :
    unstableStore f s =
      { s with
        mem := s.memAfterWrite (unstableTarget f s) (s.freeByte .stored)
        pc := s.pc + BitVec.ofNat 16 f.length
        bus := s.bus ++ f.pointerReads s ++ [s.wrOf (unstableTarget f s) (s.freeByte .stored)] } := rfl

/-- Without a page crossing an unstable store writes its effective address. -/
theorem unstableTarget_of_same_page {f : AddrForm} {s : State} (h : f.crossesPage s = false) :
    unstableTarget f s = f.ea s := by
  simp [unstableTarget, h]

theorem readOnly_eq (f : AddrForm) (s : State) :
    readOnly f s = { s with pc := s.pc + BitVec.ofNat 16 f.length, bus := s.bus ++ f.reads s } := rfl

/-! ## Interrupt entry and the return from one -/

/-- The bytes an interrupt entry stores, and no other. -/
theorem State.sameBytes_interrupt (s : State) (vector : Word) (b : Bool) (ret : Word) :
    SameBytesBut [stackAddr s.sp, stackAddr (s.sp - 1), stackAddr (s.sp - 1 - 1)] s (s.interrupt vector b ret) := by
  intro k a ha
  have h1 := State.sameBytes_write s (stackAddr s.sp) (hiByte ret)
  have h2 := sameBytes_then_write h1 rfl (stackAddr (s.sp - 1)) (loByte ret)
  have h3 := sameBytes_then_write h2 rfl (stackAddr (s.sp - 1 - 1)) (s.p.pByte b)
  rw [← h3 k a ha]
  exact State.read_congr rfl rfl rfl k a

/-- The stack frame an interrupt entry leaves, where the stack is RAM (60_exceptions.md R303). -/
theorem State.read_interrupt_frame {s : State} (hw : s.mem.wf) (hs : StackIsRam s) (vector : Word) (b : Bool)
    (ret : Word) (k : AccessKind) :
    (s.interrupt vector b ret).read k (stackAddr s.sp) = hiByte ret ∧
    (s.interrupt vector b ret).read k (stackAddr (s.sp - 1)) = loByte ret ∧
    (s.interrupt vector b ret).read k (stackAddr (s.sp - 1 - 1)) = s.p.pByte b := by
  have h1 : s.sp - 1 ≠ s.sp := by intro h; simp at h
  have h2 : s.sp - 1 - 1 ≠ s.sp - 1 := by intro h; simp at h
  have h3 : s.sp - 1 - 1 ≠ s.sp := by intro h; rw [sub_sub] at h; simp at h
  have w1 : (s.push (hiByte ret)).mem.wf := State.memAfterWrite_wf hw _ _
  have w2 : (s.pushWord ret).mem.wf := State.memAfterWrite_wf w1 _ _
  have e : ∀ a, (s.interrupt vector b ret).read k a =
      ((s.pushWord ret).write (stackAddr (s.sp - 1 - 1)) (s.p.pByte b)).read k a :=
    fun a => State.read_congr rfl rfl rfl k a
  have e1 : ∀ a, (s.pushWord ret).read k a =
      ((s.push (hiByte ret)).write (stackAddr (s.sp - 1)) (loByte ret)).read k a := fun _ => rfl
  refine ⟨?_, ?_, ?_⟩
  · rw [e, State.read_write_other _ _ _ _ (cellOf_stackAddr_ne _ h3), e1,
      State.read_write_other _ _ _ _ (cellOf_stackAddr_ne _ h1)]
    exact State.read_write_ram hw (hs _) _ k
  · rw [e, State.read_write_other _ _ _ _ (cellOf_stackAddr_ne _ h2), e1]
    exact State.read_write_ram w1 (hs _) _ k
  · rw [e]
    exact State.read_write_ram w2 (hs _) _ k

/-- An interrupt entry leaves the bytes of page FFh, the vectors among them. -/
theorem State.read_interrupt_high (s : State) (vector : Word) (b : Bool) (ret : Word) (k : AccessKind) {a : Word}
    (ha : 0xFF00 ≤ a.toNat) : (s.interrupt vector b ret).read k a = s.read k a := by
  apply State.sameBytes_interrupt
  simp only [List.forall_mem_cons, List.not_mem_nil, false_implies, implies_true, and_true]
  exact ⟨cellOf_stackAddr_ne_high _ _ ha, cellOf_stackAddr_ne_high _ _ ha, cellOf_stackAddr_ne_high _ _ ha⟩

/-- The accesses of an interrupt entry, in order (60_exceptions.md R303). -/
theorem State.interrupt_bus (s : State) (vector : Word) (b : Bool) (ret : Word) :
    (s.interrupt vector b ret).bus =
      s.bus ++ [s.wrOf (stackAddr s.sp) (hiByte ret), s.wrOf (stackAddr (s.sp - 1)) (loByte ret),
        s.wrOf (stackAddr (s.sp - 1 - 1)) (s.p.pByte b)] ++
      ((s.pushWord ret).push (s.p.pByte b)).rdWordOf .vector vector (vector + 1) := by
  simp [State.interrupt, State.pushWord, State.throughVector, State.rdWordOf, State.rdOf, State.setP, State.read]

end Sys2Proof.Machine
end

