-- ==== Sys2Proof/Tests/Slice0.lean ====
section
/-! SUPPORT. Tests: well-formedness, the decoding of every opcode byte, one step of each instruction on the vectors of
95_test_vectors.md, events, and for every statement with hypotheses a state that meets them. -/

namespace Sys2Proof.Tests

open Sys2Proof Sys2Proof.Machine

/-! ## Helpers -/

/-- Memory with these bytes stored. -/
def stored (cells : List Host.Cell) : Memory := cells.foldl (fun m c => m.write c.1 c.2) []

/-- Consecutive bytes from an address. -/
def bytesAt (addr : Nat) : List Byte → List Host.Cell
  | [] => []
  | b :: rest => (addr, b) :: bytesAt (addr + 1) rest

/-- The reset state with PC, code at PC and data as given. -/
def start (pc : Nat) (code : List Byte) (data : List Host.Cell) : State :=
  { State.reset with pc := BitVec.ofNat 16 pc, mem := stored (bytesAt pc code ++ data) }

/-- The step answers a next state, and it passes the check. -/
def after (o : Out) (check : State → Bool) : Bool :=
  match o with
  | .next t => check t
  | .fault _ | .refused _ => false

/-- Is the access a write, and its location. -/
def access : BusAccess → Bool × Nat
  | .rd a _ => (false, a)
  | .wr a _ => (true, a)

/-- The data accesses of the step just taken: those that follow the bytes of the instruction. -/
def dataAccesses (len : Nat) (t : State) : List (Bool × Nat) := (t.bus.drop len).map access

/-! ## Well-formedness -/

theorem test_wellformed_reset : State.reset.cfg.wellFormed = true := by decide

/-- A region without addresses is refused. -/
theorem test_wellformed_refuses_empty_region : Region.wellFormed ⟨0x1000, 0, .ram⟩ = false := by decide

/-- A region that passes FFFFh is refused. -/
theorem test_wellformed_refuses_region_past_the_end : Region.wellFormed ⟨0xFFFF, 2, .rom⟩ = false := by decide

theorem test_wellformed_accepts_last_address : Region.wellFormed ⟨0xFFFF, 1, .rom⟩ = true := by decide

/-- One ill-formed region makes the memory map ill-formed. -/
theorem test_wellformed_refuses_config :
    Config.wellFormed { Config.part6502 with memMap := [⟨0, 0x800, .ram⟩, ⟨0x8000, 0x8001, .rom⟩] } = false := by
  decide

/-- ROR is ill-formed on a part that lacks it, and refused there by name. -/
theorem test_wellformed_refuses_ror :
    Instr.wellFormed { Config.part6502 with hasRor := false } .rorAcc = false ∧
    exec .rorAcc { State.reset with cfg := { Config.part6502 with hasRor := false } } = .refused .rorAbsent :=
  ⟨by decide, rfl⟩

/-! ## Decoding

Each row of the opcode matrix (30_encoding.md R108), written out with the operand bytes 34h 12h. -/

theorem test_decode_row_0 :
    [0x00, 0x01, 0x02, 0x03, 0x04, 0x05, 0x06, 0x07, 0x08, 0x09, 0x0A, 0x0B, 0x0C, 0x0D, 0x0E, 0x0F].map
        (fun op => decodeBytes op 0x34 0x12) =
    [.brk, .oraIzx 0x34, .kil02, .sloIzx 0x34, .nopZp04 0x34, .oraZp 0x34, .aslZp 0x34, .sloZp 0x34, .php,
      .oraImm 0x34, .aslAcc, .anc0B 0x34, .nopAbs0C 0x1234, .oraAbs 0x1234, .aslAbs 0x1234, .sloAbs 0x1234] := by
  decide

theorem test_decode_row_1 :
    [0x10, 0x11, 0x12, 0x13, 0x14, 0x15, 0x16, 0x17, 0x18, 0x19, 0x1A, 0x1B, 0x1C, 0x1D, 0x1E, 0x1F].map
        (fun op => decodeBytes op 0x34 0x12) =
    [.bpl 0x34, .oraIzy 0x34, .kil12, .sloIzy 0x34, .nopZpx14 0x34, .oraZpx 0x34, .aslZpx 0x34, .sloZpx 0x34,
      .clc, .oraAby 0x1234, .nop1A, .sloAby 0x1234, .nopAbx1C 0x1234, .oraAbx 0x1234, .aslAbx 0x1234,
      .sloAbx 0x1234] := by
  decide

theorem test_decode_row_2 :
    [0x20, 0x21, 0x22, 0x23, 0x24, 0x25, 0x26, 0x27, 0x28, 0x29, 0x2A, 0x2B, 0x2C, 0x2D, 0x2E, 0x2F].map
        (fun op => decodeBytes op 0x34 0x12) =
    [.jsr 0x1234, .andIzx 0x34, .kil22, .rlaIzx 0x34, .bitZp 0x34, .andZp 0x34, .rolZp 0x34, .rlaZp 0x34, .plp,
      .andImm 0x34, .rolAcc, .anc2B 0x34, .bitAbs 0x1234, .andAbs 0x1234, .rolAbs 0x1234, .rlaAbs 0x1234] := by
  decide

theorem test_decode_row_3 :
    [0x30, 0x31, 0x32, 0x33, 0x34, 0x35, 0x36, 0x37, 0x38, 0x39, 0x3A, 0x3B, 0x3C, 0x3D, 0x3E, 0x3F].map
        (fun op => decodeBytes op 0x34 0x12) =
    [.bmi 0x34, .andIzy 0x34, .kil32, .rlaIzy 0x34, .nopZpx34 0x34, .andZpx 0x34, .rolZpx 0x34, .rlaZpx 0x34,
      .sec, .andAby 0x1234, .nop3A, .rlaAby 0x1234, .nopAbx3C 0x1234, .andAbx 0x1234, .rolAbx 0x1234,
      .rlaAbx 0x1234] := by
  decide

theorem test_decode_row_4 :
    [0x40, 0x41, 0x42, 0x43, 0x44, 0x45, 0x46, 0x47, 0x48, 0x49, 0x4A, 0x4B, 0x4C, 0x4D, 0x4E, 0x4F].map
        (fun op => decodeBytes op 0x34 0x12) =
    [.rti, .eorIzx 0x34, .kil42, .sreIzx 0x34, .nopZp44 0x34, .eorZp 0x34, .lsrZp 0x34, .sreZp 0x34, .pha,
      .eorImm 0x34, .lsrAcc, .alr 0x34, .jmpAbs 0x1234, .eorAbs 0x1234, .lsrAbs 0x1234, .sreAbs 0x1234] := by
  decide

theorem test_decode_row_5 :
    [0x50, 0x51, 0x52, 0x53, 0x54, 0x55, 0x56, 0x57, 0x58, 0x59, 0x5A, 0x5B, 0x5C, 0x5D, 0x5E, 0x5F].map
        (fun op => decodeBytes op 0x34 0x12) =
    [.bvc 0x34, .eorIzy 0x34, .kil52, .sreIzy 0x34, .nopZpx54 0x34, .eorZpx 0x34, .lsrZpx 0x34, .sreZpx 0x34,
      .cli, .eorAby 0x1234, .nop5A, .sreAby 0x1234, .nopAbx5C 0x1234, .eorAbx 0x1234, .lsrAbx 0x1234,
      .sreAbx 0x1234] := by
  decide

theorem test_decode_row_6 :
    [0x60, 0x61, 0x62, 0x63, 0x64, 0x65, 0x66, 0x67, 0x68, 0x69, 0x6A, 0x6B, 0x6C, 0x6D, 0x6E, 0x6F].map
        (fun op => decodeBytes op 0x34 0x12) =
    [.rts, .adcIzx 0x34, .kil62, .rraIzx 0x34, .nopZp64 0x34, .adcZp 0x34, .rorZp 0x34, .rraZp 0x34, .pla,
      .adcImm 0x34, .rorAcc, .arr 0x34, .jmpInd 0x1234, .adcAbs 0x1234, .rorAbs 0x1234, .rraAbs 0x1234] := by
  decide

theorem test_decode_row_7 :
    [0x70, 0x71, 0x72, 0x73, 0x74, 0x75, 0x76, 0x77, 0x78, 0x79, 0x7A, 0x7B, 0x7C, 0x7D, 0x7E, 0x7F].map
        (fun op => decodeBytes op 0x34 0x12) =
    [.bvs 0x34, .adcIzy 0x34, .kil72, .rraIzy 0x34, .nopZpx74 0x34, .adcZpx 0x34, .rorZpx 0x34, .rraZpx 0x34,
      .sei, .adcAby 0x1234, .nop7A, .rraAby 0x1234, .nopAbx7C 0x1234, .adcAbx 0x1234, .rorAbx 0x1234,
      .rraAbx 0x1234] := by
  decide

theorem test_decode_row_8 :
    [0x80, 0x81, 0x82, 0x83, 0x84, 0x85, 0x86, 0x87, 0x88, 0x89, 0x8A, 0x8B, 0x8C, 0x8D, 0x8E, 0x8F].map
        (fun op => decodeBytes op 0x34 0x12) =
    [.nopImm80 0x34, .staIzx 0x34, .nopImm82 0x34, .saxIzx 0x34, .styZp 0x34, .staZp 0x34, .stxZp 0x34,
      .saxZp 0x34, .dey, .nopImm89 0x34, .txa, .xaa 0x34, .styAbs 0x1234, .staAbs 0x1234, .stxAbs 0x1234,
      .saxAbs 0x1234] := by
  decide

theorem test_decode_row_9 :
    [0x90, 0x91, 0x92, 0x93, 0x94, 0x95, 0x96, 0x97, 0x98, 0x99, 0x9A, 0x9B, 0x9C, 0x9D, 0x9E, 0x9F].map
        (fun op => decodeBytes op 0x34 0x12) =
    [.bcc 0x34, .staIzy 0x34, .kil92, .ahxIzy 0x34, .styZpx 0x34, .staZpx 0x34, .stxZpy 0x34, .saxZpy 0x34,
      .tya, .staAby 0x1234, .txs, .tas 0x1234, .shy 0x1234, .staAbx 0x1234, .shx 0x1234, .ahxAby 0x1234] := by
  decide

theorem test_decode_row_A :
    [0xA0, 0xA1, 0xA2, 0xA3, 0xA4, 0xA5, 0xA6, 0xA7, 0xA8, 0xA9, 0xAA, 0xAB, 0xAC, 0xAD, 0xAE, 0xAF].map
        (fun op => decodeBytes op 0x34 0x12) =
    [.ldyImm 0x34, .ldaIzx 0x34, .ldxImm 0x34, .laxIzx 0x34, .ldyZp 0x34, .ldaZp 0x34, .ldxZp 0x34,
      .laxZp 0x34, .tay, .ldaImm 0x34, .tax, .laxImm 0x34, .ldyAbs 0x1234, .ldaAbs 0x1234, .ldxAbs 0x1234,
      .laxAbs 0x1234] := by
  decide

theorem test_decode_row_B :
    [0xB0, 0xB1, 0xB2, 0xB3, 0xB4, 0xB5, 0xB6, 0xB7, 0xB8, 0xB9, 0xBA, 0xBB, 0xBC, 0xBD, 0xBE, 0xBF].map
        (fun op => decodeBytes op 0x34 0x12) =
    [.bcs 0x34, .ldaIzy 0x34, .kilB2, .laxIzy 0x34, .ldyZpx 0x34, .ldaZpx 0x34, .ldxZpy 0x34, .laxZpy 0x34,
      .clv, .ldaAby 0x1234, .tsx, .las 0x1234, .ldyAbx 0x1234, .ldaAbx 0x1234, .ldxAby 0x1234, .laxAbx 0x1234] := by
  decide

theorem test_decode_row_C :
    [0xC0, 0xC1, 0xC2, 0xC3, 0xC4, 0xC5, 0xC6, 0xC7, 0xC8, 0xC9, 0xCA, 0xCB, 0xCC, 0xCD, 0xCE, 0xCF].map
        (fun op => decodeBytes op 0x34 0x12) =
    [.cpyImm 0x34, .cmpIzx 0x34, .nopImmC2 0x34, .dcpIzx 0x34, .cpyZp 0x34, .cmpZp 0x34, .decZp 0x34,
      .dcpZp 0x34, .iny, .cmpImm 0x34, .dex, .axs 0x34, .cpyAbs 0x1234, .cmpAbs 0x1234, .decAbs 0x1234,
      .dcpAbs 0x1234] := by
  decide

theorem test_decode_row_D :
    [0xD0, 0xD1, 0xD2, 0xD3, 0xD4, 0xD5, 0xD6, 0xD7, 0xD8, 0xD9, 0xDA, 0xDB, 0xDC, 0xDD, 0xDE, 0xDF].map
        (fun op => decodeBytes op 0x34 0x12) =
    [.bne 0x34, .cmpIzy 0x34, .kilD2, .dcpIzy 0x34, .nopZpxD4 0x34, .cmpZpx 0x34, .decZpx 0x34, .dcpZpx 0x34,
      .cld, .cmpAby 0x1234, .nopDA, .dcpAby 0x1234, .nopAbxDC 0x1234, .cmpAbx 0x1234, .decAbx 0x1234,
      .dcpAbx 0x1234] := by
  decide

theorem test_decode_row_E :
    [0xE0, 0xE1, 0xE2, 0xE3, 0xE4, 0xE5, 0xE6, 0xE7, 0xE8, 0xE9, 0xEA, 0xEB, 0xEC, 0xED, 0xEE, 0xEF].map
        (fun op => decodeBytes op 0x34 0x12) =
    [.cpxImm 0x34, .sbcIzx 0x34, .nopImmE2 0x34, .iscIzx 0x34, .cpxZp 0x34, .sbcZp 0x34, .incZp 0x34,
      .iscZp 0x34, .inx, .sbcImm 0x34, .nop, .sbcImmEB 0x34, .cpxAbs 0x1234, .sbcAbs 0x1234, .incAbs 0x1234,
      .iscAbs 0x1234] := by
  decide

theorem test_decode_row_F :
    [0xF0, 0xF1, 0xF2, 0xF3, 0xF4, 0xF5, 0xF6, 0xF7, 0xF8, 0xF9, 0xFA, 0xFB, 0xFC, 0xFD, 0xFE, 0xFF].map
        (fun op => decodeBytes op 0x34 0x12) =
    [.beq 0x34, .sbcIzy 0x34, .kilF2, .iscIzy 0x34, .nopZpxF4 0x34, .sbcZpx 0x34, .incZpx 0x34, .iscZpx 0x34,
      .sed, .sbcAby 0x1234, .nopFA, .iscAby 0x1234, .nopAbxFC 0x1234, .sbcAbx 0x1234, .incAbx 0x1234,
      .iscAbx 0x1234] := by
  decide

/-- Bit by bit: `B5 80` is 1011 0101, 1000 0000 in the opcode table, `LDA nn,X`. -/
theorem test_decode_bits_lda : decode [0b10110101, 0b10000000] = .ok (.ldaZpx 0b10000000, []) := rfl

/-- `6C lo hi`: 0110 1100, low byte 1111 1111, high byte 0000 0011. -/
theorem test_decode_bits_jmp : decode [0b01101100, 0b11111111, 0b00000011] = .ok (.jmpInd 0b0000001111111111, []) := rfl

/-- The bytes after an instruction are left alone. -/
theorem test_decode_leaves_the_rest : decode [0xA9, 0x05, 0xEA] = .ok (.ldaImm 0x05, [0xEA]) := rfl

/-- Lists that end too soon are refused by name. -/
theorem test_decode_refuses_truncated :
    decode [] = .error .noOpcode ∧ decode [0xA9] = .error (.missingOperand 0xA9) ∧
    decode [0x4C, 0x00] = .error (.missingOperand 0x4C) := ⟨rfl, rfl, rfl⟩

/-- The table's numbering: the second byte is bits 15 to 8, and bits it does not give are 0. -/
theorem test_decode_table_word :
    decodeTableWord 24 0x1234AD = some (.ldaAbs 0x1234) ∧ decodeTableWord 8 0xAD = some (.ldaAbs 0x0000) := ⟨rfl, rfl⟩

/-- Encoding is the bytes of the spec's layout, low byte first. -/
theorem test_encode : encode (.jsr 0x1234) = [0x20, 0x34, 0x12] ∧ encode (.bne 0xFE) = [0xD0, 0xFE] := ⟨rfl, rfl⟩

/-! ## One step of each instruction

The source of each is named: T, A, S, J, I, E, O are the vectors of 95_test_vectors.md, `file Rn` the rule it is
calculated from. -/

/-- T1. -/
theorem test_lda_zero_page_x_wraps :
    after (step { start 0x0400 [0xB5, 0x80] [(0x007F, 0x11), (0x017F, 0x22)] with x := 0xFF })
      (fun t => t.a == 0x11 && !t.p.n && !t.p.z && t.pc == 0x0402 &&
        dataAccesses 2 t == [(false, 0x007F)]) = true := by decide

/-- T3. -/
theorem test_lda_indirect_y_pointer_wraps :
    after (step { start 0x0400 [0xB1, 0xFF] [(0x00FF, 0x00), (0x0000, 0x02), (0x0100, 0x09), (0x0201, 0x5A)] with
        y := 0x01 })
      (fun t => t.a == 0x5A &&
        dataAccesses 2 t == [(false, 0x00FF), (false, 0x0000), (false, 0x0201)]) = true := by decide

/-- T14. -/
theorem test_ldx_immediate :
    after (step { start 0x0400 [0xA2, 0xFF] [] with p := Flags.ofByte 0x02 })
      (fun t => t.x == 0xFF && t.p.n && !t.p.z) = true := by decide

/-- 40 R139. -/
theorem test_ldy_absolute_x :
    after (step { start 0x0400 [0xBC, 0xFF, 0x02] [(0x0301, 0x80)] with x := 0x02 })
      (fun t => t.y == 0x80 && t.p.n && t.pc == 0x0403) = true := by decide

/-- T16. -/
theorem test_tay :
    after (step { start 0x0400 [0xA8] [] with a := 0x80 })
      (fun t => t.y == 0x80 && t.p.n && !t.p.z) = true := by decide

/-- 40 R132. -/
theorem test_tax :
    after (step { start 0x0400 [0xAA] [] with a := 0x01, x := 0x7F })
      (fun t => t.x == 0x01 && t.a == 0x01) = true := by decide

/-- T12. -/
theorem test_tsx :
    after (step { start 0x0400 [0xBA] [] with sp := 0x00, x := 0x05 })
      (fun t => t.x == 0x00 && t.p.z && !t.p.n) = true := by decide

/-- 40 R134. -/
theorem test_tya :
    after (step { start 0x0400 [0x98] [] with y := 0xC0 })
      (fun t => t.a == 0xC0 && t.p.n) = true := by decide

/-- 40 R135. -/
theorem test_txa :
    after (step { start 0x0400 [0x8A] [] with x := 0xC1 })
      (fun t => t.a == 0xC1 && t.p.n) = true := by decide

/-- T11. -/
theorem test_txs_sets_no_flag :
    after (step { start 0x0400 [0x9A] [] with x := 0x00, sp := 0x55 })
      (fun t => t.sp == 0x00 && !t.p.z && !t.p.n) = true := by decide

/-- T15. -/
theorem test_sta_absolute :
    after (step { start 0x0400 [0x8D, 0x00, 0x02] [] with a := 0x42 })
      (fun t => t.mem.read 0x0200 == 0x42 && dataAccesses 3 t == [(true, 0x0200)]) = true := by decide

/-- T6. -/
theorem test_stx_zero_page_y_wraps :
    after (step { start 0x0400 [0x96, 0x02] [] with x := 0x07, y := 0xFF })
      (fun t => t.mem.read 0x0001 == 0x07 && dataAccesses 2 t == [(true, 0x0001)]) = true := by decide

/-- 40 R142. -/
theorem test_sty_zero_page_x_wraps :
    after (step { start 0x0400 [0x94, 0xF0] [] with y := 0x09, x := 0x20 })
      (fun t => t.mem.read 0x0010 == 0x09) = true := by decide

/-- T7. -/
theorem test_pha_wraps :
    after (step { start 0x0400 [0x48] [] with a := 0xAA, sp := 0x00 })
      (fun t => t.mem.read 0x0100 == 0xAA && t.sp == 0xFF &&
        dataAccesses 1 t == [(true, 0x0100)]) = true := by decide

/-- T9. -/
theorem test_php_pushes_b_and_bit_5 :
    after (step { start 0x0400 [0x08] [] with sp := 0xFF, p := Flags.ofByte 0xCC })
      (fun t => t.mem.read 0x01FF == 0xFC && t.sp == 0xFE && t.p == Flags.ofByte 0xCC) = true := by decide

/-- T8. -/
theorem test_pla_wraps :
    after (step { start 0x0400 [0x68] [] with a := 0x12, sp := 0xFF })
      (fun t => t.a == 0x00 && t.sp == 0x00 && t.p.z && dataAccesses 1 t == [(false, 0x0100)]) = true := by decide

/-- T10. -/
theorem test_plp_ignores_b_and_bit_5 :
    after (step { start 0x0400 [0x28] [(0x01FF, 0x30)] with sp := 0xFE, p := Flags.ofByte 0xCF })
      (fun t => t.p == Flags.ofByte 0x00 && t.sp == 0xFF) = true := by decide

/-- A1. -/
theorem test_adc_overflows :
    after (step { start 0x0400 [0x69, 0x01] [] with a := 0x7F })
      (fun t => t.a == 0x80 && t.p == Flags.ofByte 0xC4) = true := by decide

/-- A21. -/
theorem test_adc_decimal :
    after (step { start 0x0400 [0x69, 0x46] [] with a := 0x58, p := Flags.ofByte 0x09 })
      (fun t => t.a == 0x05 && t.p.c && t.p.d) = true := by decide

/-- A6. -/
theorem test_sbc_borrow_in_alone :
    after (step { start 0x0400 [0xE9, 0x00] [] with a := 0x00 })
      (fun t => t.a == 0xFF && t.p.n && !t.p.v && !t.p.c) = true := by decide

/-- A22. -/
theorem test_sbc_decimal :
    after (step { start 0x0400 [0xE9, 0x21] [] with a := 0x12, p := Flags.ofByte 0x09 })
      (fun t => t.a == 0x91 && !t.p.c) = true := by decide

/-- A19. -/
theorem test_and_immediate :
    after (step { start 0x0400 [0x29, 0x00] [] with a := 0xFF })
      (fun t => t.a == 0x00 && t.p.z) = true := by decide

/-- A18. -/
theorem test_eor_immediate :
    after (step { start 0x0400 [0x49, 0xFF] [] with a := 0xFF })
      (fun t => t.a == 0x00 && t.p.z) = true := by decide

/-- A20. -/
theorem test_ora_immediate :
    after (step { start 0x0400 [0x09, 0x00] [] with a := 0x00 })
      (fun t => t.a == 0x00 && t.p.z) = true := by decide

/-- A9. -/
theorem test_cmp_below :
    after (step { start 0x0400 [0xC9, 0x80] [] with a := 0x7F, p := Flags.ofByte 0x41 })
      (fun t => t.a == 0x7F && t.p == Flags.ofByte 0xC0) = true := by decide

/-- A10. -/
theorem test_cpx_equal :
    after (step { start 0x0400 [0xE0, 0x10] [] with x := 0x10 })
      (fun t => t.p.z && t.p.c && !t.p.n) = true := by decide

/-- A11. -/
theorem test_cpy_below :
    after (step { start 0x0400 [0xC0, 0x06] [] with y := 0x05 })
      (fun t => t.p.n && !t.p.z && !t.p.c) = true := by decide

/-- A13. -/
theorem test_bit_absolute :
    after (step { start 0x0400 [0x2C, 0x00, 0x20] [(0x2000, 0x41)] with a := 0x01, p := Flags.ofByte 0x82 })
      (fun t => t.p == Flags.ofByte 0x40 && t.a == 0x01) = true := by decide

/-- A14. -/
theorem test_inc_wraps :
    after (step { start 0x0400 [0xE6, 0xFF] [(0x00FF, 0xFF)] with p := Flags.ofByte 0xC1 })
      (fun t => t.mem.read 0x00FF == 0x00 && t.p == Flags.ofByte 0x43 &&
        dataAccesses 2 t == [(false, 0x00FF), (true, 0x00FF)]) = true := by decide

/-- A15. -/
theorem test_dec_wraps :
    after (step { start 0x0400 [0xDE, 0x00, 0x02] [] with x := 0x10 })
      (fun t => t.mem.read 0x0210 == 0xFF && t.p.n && !t.p.z) = true := by decide

/-- A16. -/
theorem test_inx_wraps :
    after (step { start 0x0400 [0xE8] [] with x := 0xFF, p := Flags.ofByte 0xC1 })
      (fun t => t.x == 0x00 && t.p == Flags.ofByte 0x43) = true := by decide

/-- 41 R165. -/
theorem test_iny :
    after (step { start 0x0400 [0xC8] [] with y := 0x7F })
      (fun t => t.y == 0x80 && t.p.n) = true := by decide

/-- 41 R167. -/
theorem test_dex :
    after (step { start 0x0400 [0xCA] [] with x := 0x01 })
      (fun t => t.x == 0x00 && t.p.z) = true := by decide

/-- A17. -/
theorem test_dey_wraps :
    after (step { start 0x0400 [0x88] [] with y := 0x00 })
      (fun t => t.y == 0xFF && t.p.n) = true := by decide

/-- S5. -/
theorem test_asl_zero_page :
    after (step { start 0x0400 [0x06, 0x10] [(0x0010, 0x40)] with a := 0x33, p := Flags.ofByte 0x03 })
      (fun t => t.mem.read 0x0010 == 0x80 && t.a == 0x33 && t.p == Flags.ofByte 0x80) = true := by decide

/-- S7. -/
theorem test_lsr_zero_page_x :
    after (step { start 0x0400 [0x56, 0xF0] [(0x0010, 0xFF)] with x := 0x20 })
      (fun t => t.mem.read 0x0010 == 0x7F && t.p.c && !t.p.n && !t.p.z) = true := by decide

/-- S3. -/
theorem test_rol_accumulator :
    after (step { start 0x0400 [0x2A] [] with a := 0x80, p := Flags.ofByte 0x01 })
      (fun t => t.a == 0x01 && t.p.c && !t.p.z) = true := by decide

/-- S6. -/
theorem test_ror_absolute_x :
    after (step { start 0x0400 [0x7E, 0x00, 0x03] [] with x := 0x01, p := Flags.ofByte 0x03 })
      (fun t => t.mem.read 0x0301 == 0x80 && t.p == Flags.ofByte 0x80) = true := by decide

/-- J1. -/
theorem test_jmp_indirect_stays_in_the_page :
    after (step (start 0x0600 [0x6C, 0xFF, 0x03] [(0x03FF, 0x34), (0x0300, 0x12), (0x0400, 0x56)]))
      (fun t => t.pc == 0x1234 && dataAccesses 3 t == [(false, 0x03FF), (false, 0x0300)]) = true := by decide

/-- J2. -/
theorem test_jmp_absolute :
    after (step (start 0x0600 [0x4C, 0x00, 0x06] []))
      (fun t => t.pc == 0x0600 && t.a == 0x00) = true := by decide

/-- J13. -/
theorem test_jsr_wraps_the_stack :
    after (step { start 0x0400 [0x20, 0x00, 0x80] [] with sp := 0x00 })
      (fun t => t.mem.read 0x0100 == 0x04 && t.mem.read 0x01FF == 0x02 && t.sp == 0xFE && t.pc == 0x8000 &&
        dataAccesses 3 t == [(true, 0x0100), (true, 0x01FF)]) = true := by decide

/-- J5. -/
theorem test_rts_wraps :
    after (step { start 0x0400 [0x60] [(0x01FE, 0xFF), (0x01FF, 0xFF)] with sp := 0xFD })
      (fun t => t.pc == 0x0000 && t.sp == 0xFF &&
        dataAccesses 1 t == [(false, 0x01FE), (false, 0x01FF)]) = true := by decide

/-- J6. -/
theorem test_rti_adds_nothing :
    after (step { start 0x0400 [0x40] [(0x01FD, 0xFF), (0x01FE, 0x05), (0x01FF, 0xC0)] with sp := 0xFC })
      (fun t => t.pc == 0xC005 && t.sp == 0xFF && t.p == Flags.ofByte 0xCF) = true := by decide

/-- J10. -/
theorem test_bpl_wraps :
    after (step { start 0xFFFC [0x10, 0x05] [] with p := Flags.ofByte 0x4F })
      (fun t => t.pc == 0x0003) = true := by decide

/-- J9. -/
theorem test_bmi_backwards :
    after (step { start 0x0400 [0x30, 0x80] [] with p := Flags.ofByte 0x80 })
      (fun t => t.pc == 0x0382) = true := by decide

/-- 43 R199. -/
theorem test_bvc_not_taken :
    after (step { start 0x0400 [0x50, 0x10] [] with p := Flags.ofByte 0x40 })
      (fun t => t.pc == 0x0402) = true := by decide

/-- 43 R200. -/
theorem test_bvs_taken :
    after (step { start 0x0400 [0x70, 0x10] [] with p := Flags.ofByte 0x40 })
      (fun t => t.pc == 0x0412) = true := by decide

/-- J11. -/
theorem test_bcc_not_taken :
    after (step { start 0x0400 [0x90, 0x10] [] with p := Flags.ofByte 0x01 })
      (fun t => t.pc == 0x0402) = true := by decide

/-- 43 R202. -/
theorem test_bcs_taken :
    after (step { start 0x0400 [0xB0, 0x10] [] with p := Flags.ofByte 0x01 })
      (fun t => t.pc == 0x0412) = true := by decide

/-- J7. -/
theorem test_bne_to_itself :
    after (step { start 0x0400 [0xD0, 0xFE] [] with p := Flags.ofByte 0xCD })
      (fun t => t.pc == 0x0400) = true := by decide

/-- J8. -/
theorem test_beq_forwards :
    after (step { start 0x0400 [0xF0, 0x7F] [] with p := Flags.ofByte 0x02 })
      (fun t => t.pc == 0x0481) = true := by decide

/-- J12. -/
theorem test_brk :
    after (step { start 0x1234 [0x00, 0xEA] [(0xFFFE, 0x00), (0xFFFF, 0x90)] with
        sp := 0x01, p := Flags.ofByte 0xC8 })
      (fun t => t.mem.read 0x0101 == 0x12 && t.mem.read 0x0100 == 0x36 && t.mem.read 0x01FF == 0xF8 &&
        t.sp == 0xFE && t.pc == 0x9000 && t.p == Flags.ofByte 0xCC &&
        dataAccesses 1 t == [(true, 0x0101), (true, 0x0100), (true, 0x01FF), (false, 0xFFFE), (false, 0xFFFF)]) = true := by decide

/-- J14. -/
theorem test_sec :
    after (step { start 0x0400 [0x38] [] with p := Flags.ofByte 0xCE })
      (fun t => t.p == Flags.ofByte 0xCF && t.pc == 0x0401) = true := by decide

/-- J14. -/
theorem test_clc :
    after (step { start 0x0400 [0x18] [] with p := Flags.ofByte 0x01 })
      (fun t => t.p == Flags.ofByte 0x00 && t.pc == 0x0401) = true := by decide

/-- J14. -/
theorem test_sei :
    after (step { start 0x0400 [0x78] [] with p := Flags.ofByte 0xCB })
      (fun t => t.p == Flags.ofByte 0xCF && t.pc == 0x0401) = true := by decide

/-- J14. -/
theorem test_cli :
    after (step { start 0x0400 [0x58] [] with p := Flags.ofByte 0x04 })
      (fun t => t.p == Flags.ofByte 0x00 && t.pc == 0x0401) = true := by decide

/-- J14. -/
theorem test_sed :
    after (step { start 0x0400 [0xF8] [] with p := Flags.ofByte 0xC7 })
      (fun t => t.p == Flags.ofByte 0xCF && t.pc == 0x0401) = true := by decide

/-- J14. -/
theorem test_cld :
    after (step { start 0x0400 [0xD8] [] with p := Flags.ofByte 0x08 })
      (fun t => t.p == Flags.ofByte 0x00 && t.pc == 0x0401) = true := by decide

/-- J14. -/
theorem test_clv :
    after (step { start 0x0400 [0xB8] [] with p := Flags.ofByte 0x40 })
      (fun t => t.p == Flags.ofByte 0x00 && t.pc == 0x0401) = true := by decide

/-- J15. -/
theorem test_nop :
    after (step { start 0x0400 [0xEA] [] with a := 0x11 })
      (fun t => t.pc == 0x0401 && t.a == 0x11) = true := by decide

/-- I2. -/
theorem test_sax_indirect_x :
    after (step { start 0x0400 [0x83, 0xFF] [(0x0001, 0x03)] with a := 0x0F, x := 0x01 })
      (fun t => t.mem.read 0x0300 == 0x01 &&
        dataAccesses 2 t == [(false, 0x0000), (false, 0x0001), (true, 0x0300)]) = true := by decide

/-- I3. -/
theorem test_lax_indirect_y :
    after (step { start 0x0400 [0xB3, 0x20] [(0x0020, 0x01), (0x0021, 0x02), (0x0300, 0x80)] with y := 0xFF })
      (fun t => t.a == 0x80 && t.x == 0x80 && t.p.n &&
        dataAccesses 2 t == [(false, 0x0020), (false, 0x0021), (false, 0x0300)]) = true := by decide

/-- O5. -/
theorem test_lax_bf_uses_the_parameter :
    after (step { start 0x0400 [0xBF, 0x00, 0x02] [(0x0201, 0x11), (0x0202, 0x22)] with
        x := 0x01, y := 0x02, cfg := { Config.part6502 with
        laxBfIndex := .y } })
      (fun t => t.a == 0x22 && t.x == 0x22) = true := by decide

/-- I4. -/
theorem test_slo :
    after (step { start 0x0400 [0x07, 0x10] [(0x0010, 0x81)] with a := 0x01 })
      (fun t => t.mem.read 0x0010 == 0x02 && t.p.c && t.a == 0x03) = true := by decide

/-- I5. -/
theorem test_rla :
    after (step { start 0x0400 [0x27, 0x10] [(0x0010, 0x80)] with a := 0xFF, p := Flags.ofByte 0x01 })
      (fun t => t.mem.read 0x0010 == 0x01 && t.p.c && t.a == 0x01) = true := by decide

/-- I6. -/
theorem test_sre :
    after (step { start 0x0400 [0x47, 0x10] [(0x0010, 0x03)] with a := 0x81 })
      (fun t => t.mem.read 0x0010 == 0x01 && t.p.c && t.a == 0x80 && t.p.n) = true := by decide

/-- I24. -/
theorem test_rra :
    after (step { start 0x0400 [0x7B, 0x00, 0x02] [(0x0201, 0xFF)] with
        a := 0x01, y := 0x01, p := Flags.ofByte 0x01 })
      (fun t => t.mem.read 0x0201 == 0xFF && t.a == 0x01 && t.p.c && !t.p.v) = true := by decide

/-- I9. -/
theorem test_dcp :
    after (step { start 0x0400 [0xC7, 0x10] [] with a := 0x00 })
      (fun t => t.mem.read 0x0010 == 0xFF && !t.p.z && !t.p.c && !t.p.n) = true := by decide

/-- I10. -/
theorem test_isc :
    after (step { start 0x0400 [0xE7, 0x10] [(0x0010, 0x0F)] with a := 0x20, p := Flags.ofByte 0x01 })
      (fun t => t.mem.read 0x0010 == 0x10 && t.a == 0x10 && t.p.c && !t.p.v) = true := by decide

/-- E22. -/
theorem test_anc_clears_carry :
    after (step { start 0x0400 [0x2B, 0xFF] [] with a := 0x7F, p := Flags.ofByte 0x83 })
      (fun t => t.a == 0x7F && !t.p.n && !t.p.c) = true := by decide

/-- I12. -/
theorem test_alr :
    after (step { start 0x0400 [0x4B, 0x03] [] with a := 0xFF })
      (fun t => t.a == 0x01 && t.p.c && !t.p.n) = true := by decide

/-- I13. -/
theorem test_arr :
    after (step { start 0x0400 [0x6B, 0xC0] [] with a := 0xFF, p := Flags.ofByte 0x01 })
      (fun t => t.a == 0xE0 && t.p.c && t.p.n && !t.p.z) = true := by decide

/-- 44 R259. -/
theorem test_xaa_leaves_the_rest :
    after (step { start 0x0400 [0x8B, 0xFF] [] with x := 0x0F, p := Flags.ofByte 0x49 })
      (fun t => t.pc == 0x0402 && t.x == 0x0F && t.p.c && t.p.v && t.p.d && !t.p.i) = true := by decide

/-- I16. -/
theorem test_axs_compares :
    after (step { start 0x0400 [0xCB, 0x09] [] with a := 0x0F, x := 0xF8, p := Flags.ofByte 0x41 })
      (fun t => t.x == 0xFF && t.a == 0x0F && t.p == Flags.ofByte 0xC0) = true := by decide

/-- I17. -/
theorem test_sbc_eb :
    after (step { start 0x0400 [0xEB, 0x20] [] with a := 0x50, p := Flags.ofByte 0x01 })
      (fun t => t.a == 0x30 && t.p.c) = true := by decide

/-- 44 R263. -/
theorem test_ahx_writes_at_ea :
    after (step { start 0x0400 [0x9F, 0x00, 0x02] [] with y := 0x10 })
      (fun t => t.pc == 0x0403 && dataAccesses 3 t == [(true, 0x0210)]) = true := by decide

/-- 44 R264. -/
theorem test_shy_writes_at_ea :
    after (step { start 0x0400 [0x9C, 0x00, 0x02] [] with x := 0x10 })
      (fun t => t.pc == 0x0403 && dataAccesses 3 t == [(true, 0x0210)]) = true := by decide

/-- 44 R265. -/
theorem test_shx_writes_at_ea :
    after (step { start 0x0400 [0x9E, 0x00, 0x02] [] with y := 0x10 })
      (fun t => t.pc == 0x0403 && dataAccesses 3 t == [(true, 0x0210)]) = true := by decide

/-- O4. -/
theorem test_tas_sets_s :
    after (step { start 0x0400 [0x9B, 0x00, 0x02] [] with a := 0xF3, x := 0x3F })
      (fun t => t.sp == 0x33 && t.a == 0xF3 && dataAccesses 3 t == [(true, 0x0200)]) = true := by decide

/-- I18. -/
theorem test_las :
    after (step { start 0x0400 [0xBB, 0x00, 0x02] [(0x0210, 0x3C)] with y := 0x10, sp := 0xF0 })
      (fun t => t.a == 0x30 && t.x == 0x30 && t.sp == 0x30) = true := by decide

/-- I20. -/
theorem test_nop_absolute_x_reads :
    after (step { start 0x0400 [0x1C, 0xFF, 0x20] [] with x := 0x01 })
      (fun t => t.pc == 0x0403 && dataAccesses 3 t == [(false, 0x2100)]) = true := by decide

/-- I22. -/
theorem test_kil_halts :
    after (step { start 0x0400 [0x02] [] with a := 0x12 })
      (fun t => t.halted && t.a == 0x12) = true := by decide

/-- E28. -/
theorem test_adc_without_decimal_mode :
    after (step { start 0x0400 [0x69, 0x46] [] with a := 0x58, cfg := Config.part2A03, p := Flags.ofByte 0x09 })
      (fun t => t.a == 0x9F && t.p == Flags.ofByte 0xC8) = true := by decide

/-- 44 R237 with 41 R169: byte 33h, C = 1 becomes 99h with carry in 1; 99 + 99 + 1 = 199. -/
theorem test_rra_decimal :
    after (step { start 0x0400 [0x67, 0x10] [(0x0010, 0x33)] with a := 0x99, p := Flags.ofByte 0x09 })
      (fun t => t.a == 0x99 && t.p.c && t.mem.read 0x0010 == 0x99) = true := by decide

/-- 44 R239 with 41 R170: byte 98h becomes 99h; 00 - 99 - 1 = -100. -/
theorem test_isc_decimal :
    after (step { start 0x0400 [0xE7, 0x10] [(0x0010, 0x98)] with a := 0x00, p := Flags.ofByte 0x08 })
      (fun t => t.a == 0x00 && !t.p.c && t.mem.read 0x0010 == 0x99) = true := by decide

/-! ## Address lines (20_memory.md R67) -/

/-- On the 6507 a store to 3FFFh lands at 1FFFh, and the platform sees it there. -/
theorem test_6507_drives_thirteen_lines :
    after (step { start 0x0400 [0x8D, 0xFF, 0x3F] [] with a := 0x77, cfg := Config.part6507 })
      (fun t => t.mem.read 0x1FFF == 0x77 && dataAccesses 3 t == [(true, 0x1FFF)]) = true := by decide

/-- A device answers 1FFFh and 3FFFh alike on the 6507. -/
theorem test_6507_device_sees_the_location :
    ∀ s ∈ [{ start 0x0400 [] [] with cfg := { Config.part6507 with memMap := [] } }],
      kindAt s.cfg 0x1FFF = .device ∧ s.read .data 0x1FFF = s.read .data 0x3FFF := by
  intro s hs
  rw [List.mem_singleton.1 hs]
  exact ⟨rfl, rfl⟩

/-! ## Events (95_test_vectors.md 2.6) -/

/-- X1: IRQ. -/
theorem test_irq_entry :
    after (step { start 0xC010 [] [(0xFFFF, 0xE1)] with
        sp := 0xFD, p := Flags.ofByte 0x01, lines := { irq := .low, nmi := .high, reset := .high } })
      (fun t => t.mem.read 0x01FD == 0xC0 && t.mem.read 0x01FC == 0x10 && t.mem.read 0x01FB == 0x21 &&
        t.sp == 0xFA && t.p == Flags.ofByte 0x05 && t.pc == 0xE100) = true := by decide

/-- X2: IRQ masked, the instruction executes. -/
theorem test_irq_masked :
    after (step { start 0xC010 [0xEA] [(0xFFFF, 0xE1)] with
        sp := 0xFD, p := Flags.ofByte 0x05, lines := { irq := .low, nmi := .high, reset := .high } })
      (fun t => t.pc == 0xC011 && t.sp == 0xFD) = true := by decide

/-- 10 R43: a 6507 has no /IRQ. -/
theorem test_irq_without_the_pin :
    after (step { start 0x1010 [0xEA] [] with
        p := Flags.ofByte 0x00, cfg := Config.part6507, lines := { irq := .low, nmi := .high, reset := .high } })
      (fun t => t.pc == 0x1011) = true := by decide

/-- 60 R325: under `immediate` the new I counts at the boundary directly after CLI. -/
theorem test_irq_directly_after_cli :
    after (step { start 0xC010 [0xEA] [(0xFFFF, 0xE1)] with
        p := Flags.ofByte 0x00, lateI := some true, cfg := { Config.part6502 with irqLatency := .immediate }
        lines := { irq := .low, nmi := .high, reset := .high } })
      (fun t => t.pc == 0xE100) = true := by decide

/-- X3, E12: /NMI falls, the entry is taken, the latch is clear after it. -/
theorem test_nmi_entry :
    after (step { start 0x8003 [] [(0xFFFB, 0x90)] with
        sp := 0xFF, p := Flags.ofByte 0x00, inputs := [[⟨.nmi, .low⟩]] })
      (fun t => t.mem.read 0x01FF == 0x80 && t.mem.read 0x01FE == 0x03 && t.mem.read 0x01FD == 0x20 &&
        t.sp == 0xFC && t.p.i && t.pc == 0x9000 && !t.nmiPending) = true := by decide

/-- E12: /NMI kept LOW gives no second NMI. -/
theorem test_nmi_level_is_no_edge :
    after (step { start 0x9000 [0xEA] [] with lines := { irq := .high, nmi := .low, reset := .high } })
      (fun t => t.pc == 0x9001) = true := by decide

/-- X4: NMI before IRQ. -/
theorem test_nmi_before_irq :
    after (step { start 0x8003 [] [(0xFFFB, 0x90), (0xFFFF, 0xE1)] with
        nmiPending := true, p := Flags.ofByte 0x00, lines := { irq := .low, nmi := .low, reset := .high } })
      (fun t => t.pc == 0x9000 && t.p.i) = true := by decide

/-- X5, E27: RESET, also out of the halt; the I flag is set, nothing is written. -/
theorem test_reset_ends_the_halt :
    after (step { start 0x0400 [] [(0xFFFC, 0x34), (0xFFFD, 0x12)] with
        halted := true, nmiPending := true, inputs := [[⟨.reset, .low⟩]] })
      (fun t => t.pc == 0x1234 && t.p.i && !t.halted && !t.nmiPending && dataAccesses 0 t ==
        [(false, 0xFFFC), (false, 0xFFFD)]) = true := by decide

/-- X7: halted, no event but RESET is taken. -/
theorem test_halted_is_stuck :
    step { start 0x0400 [0xEA] [] with
        halted := true, p := Flags.ofByte 0x00, lines := { irq := .low, nmi := .high, reset := .high } } =
      .fault .stuck := rfl

/-- An instruction placed by `withFetchWord` runs first after reset. -/
theorem test_withFetchWord :
    after (step (State.reset.withFetchWord 16 0x42A9)) (fun t => t.a == 0x42 && t.pc == 0x0002) = true := by decide

/-- E16: the cycles of a branch. -/
theorem test_branch_cycles :
    cycles (.bne 0x00) (start 0xC0FD [] []) = some 3 ∧ cycles (.bne 0x01) (start 0xC0FD [] []) = some 4 ∧
    cycles (.bne 0x00) (start 0xC0FE [] []) = some 3 ∧ cycles (.beq 0x00) (start 0xC0FD [] []) = some 2 := by decide

/-! ## A state and operands that meet the hypotheses of each statement that has some -/

/-- A state about to load, with a BRK vector. -/
def ready : State := start 0x0400 [0xA9, 0x80] [(0xFFFF, 0x90)]

/-- The same with the lines as given. -/
def withLines (irq nmi reset : Level) : State := { ready with lines := { irq := irq, nmi := nmi, reset := reset } }

theorem ready_wf : ready.mem.wf := by decide

theorem ready_stack : StackIsRam ready := stackIsRam_part6502 rfl

theorem ready_inv : ready.Inv := ⟨by decide, by decide⟩

theorem test_witness_DecodeRefusesOnlyTruncatedLists :
    (decodeBytes 0xA9 (([0x05] : List Byte).getD 0 0) (([0x05] : List Byte).getD 1 0)).length ≤ 1 + 1 ∧
    0 + 1 < (decodeBytes 0xA9 (([] : List Byte).getD 0 0) (([] : List Byte).getD 1 0)).length := by decide

theorem test_witness_StepRunsTheDecodedInstruction :
    ready.boundary.choice = .instruction ∧ 0xA9 = ready.boundary.read .opcode ready.pc ∧
    0x80 = ready.boundary.read .operand (ready.pc + 1) ∧ 0x00 = ready.boundary.read .operand (ready.pc + 2) ∧
    decode [0xA9, 0x80, 0x00] = .ok (.ldaImm 0x80, [0x00]) := ⟨by decide, by decide, by decide, by decide, rfl⟩

theorem test_witness_PlacedInstructionIsTheNextOneRun : ready.mem.wf := ready_wf

/-- The clauses in order: RESET, halted with and without changes to come, NMI, IRQ, instruction, stuck. -/
theorem test_witness_StepFollowsTheOrderOfEvents :
    (withLines .high .high .low).boundary.lines.reset = .low ∧
    (ready.boundary.lines.reset = .high ∧ { ready with halted := true }.halted = true) ∧
    ({ ready with nmiPending := true }.boundary.lines.reset = .high ∧
      { ready with nmiPending := true }.halted = false ∧
      { ready with nmiPending := true }.boundary.nmiPending = true) ∧
    (∀ s ∈ [{ withLines .low .high .high with p := Flags.ofByte 0x00 }],
      s.boundary.lines.reset = .high ∧ s.halted = false ∧ s.boundary.nmiPending = false ∧
      (s.cfg.irqPin = true ∧ s.boundary.lines.irq = .low ∧ s.boundary.effectiveI = false)) ∧
    (ready.halted = false ∧ ready.boundary.nmiPending = false ∧
      ¬(ready.cfg.irqPin = true ∧ ready.boundary.lines.irq = .low ∧ ready.boundary.effectiveI = false)) ∧
    ({ ready with halted := true }.boundary.lines.reset = .high ∧ { ready with halted := true }.inputs = []) := by
  decide

theorem test_witness_EveryStepTakesFreshFreeValues : ∃ t, step ready = .next t := ⟨_, rfl⟩

theorem test_witness_EveryStepKeepsTheInvariant : ready.Inv ∧ ∃ t, step ready = .next t := ⟨ready_inv, _, rfl⟩

theorem test_witness_ResetGoesThroughItsVector : (withLines .high .high .low).boundary.lines.reset = .low := by decide

theorem test_witness_InterruptEntrySavesAndVectors :
    nmiVector ∈ [nmiVector, irqVector] ∧ irqVector ∈ [nmiVector, irqVector] ∧ ready.mem.wf ∧ StackIsRam ready :=
  ⟨by decide, by decide, ready_wf, ready_stack⟩

/-- NMI with I set, IRQ with I clear. -/
theorem test_witness_NmiAndIrqAreTakenAtABoundary :
    (∀ s ∈ [{ ready with nmiPending := true }],
      s.boundary.lines.reset = .high ∧ s.halted = false ∧ s.boundary.nmiPending = true ∧ s.p.i = true) ∧
    ∀ s ∈ [{ withLines .low .high .high with p := Flags.ofByte 0x00 }],
      s.boundary.lines.reset = .high ∧ s.halted = false ∧ s.boundary.nmiPending = false ∧ s.cfg.irqPin = true ∧
      s.boundary.lines.irq = .low ∧ s.boundary.effectiveI = false := by decide

/-- /RESET is not driven, /IRQ ends HIGH, /NMI falls; an entry to come, and none. -/
theorem test_witness_NmiLatchIsSetByFallingEdges :
    (∀ changes ∈ [[(⟨.irq, .low⟩ : PinChange), ⟨.irq, .high⟩, ⟨.nmi, .low⟩]],
      (∀ ch ∈ changes, ch.line ≠ .reset) ∧
      changes = [⟨.irq, .low⟩] ++ ⟨.irq, .high⟩ :: [⟨.nmi, .low⟩] ∧
      (∀ ch ∈ [(⟨.nmi, .low⟩ : PinChange)], ch.line ≠ .irq) ∧
      changes = [⟨.irq, .low⟩, ⟨.irq, .high⟩] ++ ⟨.nmi, .low⟩ :: []) ∧
    ready.inputs = [] ∧ { ready with inputs := [[⟨.irq, .low⟩], []] }.inputs = [⟨.irq, .low⟩] :: [[]] := by decide

theorem test_witness_IrqTestSeesOldOrNewI :
    ready.lateI = none ∧ { Config.part6502 with irqLatency := .immediate }.irqLatency = .immediate ∧
    { ready with lateI := some true }.lateI = some true ∧ (∃ t, exec .cli ready = .next t) ∧
    ∃ t, exec (.ldaImm 0x80) ready = .next t := ⟨rfl, rfl, rfl, ⟨_, rfl⟩, _, rfl⟩

theorem test_witness_BrkEntersThroughItsVector : ready.mem.wf ∧ StackIsRam ready := ⟨ready_wf, ready_stack⟩

/-- The handler has changed A. -/
theorem test_witness_RtiUndoesAnInterruptEntry :
    ∀ u ∈ [{ ready.interrupt irqVector false 0x1234 with a := 0x07 }],
      ready.mem.wf ∧ StackIsRam ready ∧ u.sp = (ready.interrupt irqVector false 0x1234).sp ∧
      ∀ d ∈ [(1 : Byte), 2, 3], u.read .stack (stackAddr (u.sp + d)) =
        (ready.interrupt irqVector false 0x1234).read .stack (stackAddr (u.sp + d)) := by
  intro u hu
  rw [List.mem_singleton.1 hu]
  exact ⟨ready_wf, ready_stack, rfl, fun _ _ => rfl⟩

/-- Two boundaries pass while the CPU is halted. -/
theorem test_witness_HaltedCpuStaysAsItIsUntilReset :
    ∀ s ∈ [{ ready with halted := true, inputs := [[⟨.nmi, .low⟩], [⟨.irq, .low⟩, ⟨.reset, .high⟩]] }],
      s.halted = true ∧ s.lines.reset = .high ∧ NoResetToCome s ∧ ∃ t, steps 2 s = .next t := by
  intro s hs
  rw [List.mem_singleton.1 hs]
  exact ⟨rfl, rfl, by unfold NoResetToCome; decide, _, rfl⟩

theorem test_witness_EveryInstructionCompletes :
    Instr.wellFormed ready.cfg .rorAcc = true ∧
    Instr.wellFormed { ready.cfg with hasRor := false } (.rorZp 0x10) = false := by decide

theorem test_witness_InstructionsLeaveTheSurroundings : ∃ t, exec .kil02 ready = .next t := ⟨_, rfl⟩

/-- A kept, a cleared and a set flag. -/
theorem test_witness_InstructionsObeyTheirFlagColumns :
    (∃ t, exec (.ldaImm 0x80) ready = .next t) ∧ (flagColumn (.ldaImm 0x80)).c = .kept ∧
    (∃ t, exec .clc ready = .next t) ∧ (flagColumn .clc).c = .cleared ∧
    (∃ t, exec .sec ready = .next t) ∧ (flagColumn .sec).c = .set :=
  ⟨⟨_, rfl⟩, rfl, ⟨_, rfl⟩, rfl, ⟨_, rfl⟩, rfl⟩

/-- NOP meets all five but the second clause, which a shift of memory meets. -/
theorem test_witness_RegistersAreWrittenByTheNamedInstructionsOnly :
    (∃ t, exec .nop ready = .next t) ∧ mnemonicOf .nop = .NOP ∧ (∃ t, exec (.aslZp 0x10) ready = .next t) ∧
    mnemonicOf (.aslZp 0x10) = .ASL ∧ addrFormOf ready.cfg (.aslZp 0x10) ≠ none :=
  ⟨⟨_, rfl⟩, rfl, ⟨_, rfl⟩, rfl, by decide⟩

theorem test_witness_PcAdvancesByTheLength :
    (∃ t, exec (.ldaAbs 0x1234) ready = .next t) ∧ mnemonicOf (.ldaAbs 0x1234) = .LDA := ⟨⟨_, rfl⟩, rfl⟩

/-- One instruction for each clause; the unstable store ends exactly at the end of its page. -/
theorem test_witness_InstructionsStoreOnlyWhereTheySay :
    (∃ t, exec .nop ready = .next t) ∧ mnemonicOf .nop = .NOP ∧
    (∃ t, exec .aslAcc ready = .next t) ∧ mnemonicOf .aslAcc = .ASL ∧ addrFormOf ready.cfg .aslAcc = none ∧
    (∃ t, exec (.staZp 0x10) ready = .next t) ∧ mnemonicOf (.staZp 0x10) = .STA ∧
    addrFormOf ready.cfg (.staZp 0x10) = some (.zp 0x10) ∧
    (∃ t, exec (.shy 0x02EF) { ready with x := 0x10 } = .next t) ∧ mnemonicOf (.shy 0x02EF) = .SHY ∧
    addrFormOf ready.cfg (.shy 0x02EF) = some (.abx 0x02EF) ∧
    (AddrForm.abx 0x02EF).crossesPage { ready with x := 0x10 } = false ∧
    (∃ t, exec .pha ready = .next t) ∧ mnemonicOf .pha = .PHA ∧
    (∃ t, exec (.jsr 0x1234) ready = .next t) ∧ mnemonicOf (.jsr 0x1234) = .JSR ∧
    (∃ t, exec .brk ready = .next t) ∧ mnemonicOf .brk = .BRK :=
  ⟨⟨_, rfl⟩, rfl, ⟨_, rfl⟩, rfl, rfl, ⟨_, rfl⟩, rfl, rfl, ⟨_, rfl⟩, rfl, rfl, by decide, ⟨_, rfl⟩, rfl, ⟨_, rfl⟩, rfl,
    ⟨_, rfl⟩, rfl⟩

/-- The pointer of `(FFh),Y` and, with X = 0, of `(FFh,X)` has its high byte at 0000h. -/
theorem test_witness_EffectiveAddressesOfIndirectForms :
    (0x00FF : Word).toNat = ((0xFF : Byte).toNat + ready.x.toNat) % 256 ∧
    (0x0000 : Word).toNat = ((0xFF : Byte).toNat + ready.x.toNat + 1) % 256 ∧
    (0x00FF : Word).toNat = (0xFF : Byte).toNat ∧ (0x0000 : Word).toNat = ((0xFF : Byte).toNat + 1) % 256 := by decide

/-- Both widths; the port and the first address past it; no region, and the last location of a region that follows
another. -/
theorem test_witness_ReadsSeeTheLatestWrite_map :
    Config.part6502.addrLines = .sixteen ∧ Config.part6507.addrLines = .thirteen ∧
    (Config.part6510.ioPort = true ∧ (0x0001 : Word).toNat < 2 ∧ 2 ≤ (0x0002 : Word).toNat) ∧
    (∀ cfg ∈ [{ Config.part6507 with memMap := [⟨0x0000, 0x80, .device⟩, ⟨0x1000, 0x1000, .rom⟩] }],
      cfg.ioPort = false ∧
      (∀ r ∈ cfg.memMap, ¬(r.base ≤ cellOf cfg 0x0080 ∧ cellOf cfg 0x0080 < r.base + r.size)) ∧
      cfg.memMap = [⟨0x0000, 0x80, .device⟩] ++ ⟨0x1000, 0x1000, .rom⟩ :: [] ∧
      (∀ q ∈ [(⟨0x0000, 0x80, .device⟩ : Region)],
        ¬(q.base ≤ cellOf cfg 0xFFFF ∧ cellOf cfg 0xFFFF < q.base + q.size)) ∧
      0x1000 ≤ cellOf cfg 0xFFFF ∧ cellOf cfg 0xFFFF < 0x1000 + 0x1000) := by decide

/-- RAM at one location reached by two addresses, two locations, a device. -/
theorem test_witness_ReadsSeeTheLatestWrite :
    ready.mem.wf ∧ kindAt Config.part6507 0x0000 = .ram ∧ kindAt Config.part6507 0x2000 = .ram ∧
    cellOf Config.part6507 0x0000 = cellOf Config.part6507 0x2000 ∧
    cellOf Config.part6507 0x1FFF ≠ cellOf Config.part6507 0x2000 ∧ kindAt Config.part6510 0x0001 ≠ .ram ∧
    kindAt Config.part6510 0x0002 = .ram := by decide

theorem test_witness_PullUndoesPush : ready.mem.wf ∧ kindAt ready.cfg (stackAddr ready.sp) = .ram :=
  ⟨ready_wf, ready_stack _⟩

theorem test_witness_StoresWriteTheEffectiveAddressOnly :
    (Instr.staZp 0x10, AddrForm.zp 0x10) ∈
      sevenForms .staZp .staZpx .staIzx .staIzy .staAbs .staAbx .staAby 0x10 0x1234 ∧
    ready.mem.wf ∧ kindAt ready.cfg ((AddrForm.zp 0x10).ea ready) = .ram := by decide

theorem test_witness_PushAndPullInstructions :
    (∃ t, exec .pha ready = .next t) ∧ ∃ t, exec .php ready = .next t := ⟨⟨_, rfl⟩, _, rfl⟩

/-- D = 0, and a part without decimal mode with D = 1. -/
theorem test_witness_AdcAddsInBinary :
    ready.p.d = false ∧ { ready with cfg := Config.part2A03, p := Flags.ofByte 0x08 }.cfg.decimal = .ignored ∧
    (Instr.adcImm 0xFF, Operand.imm 0xFF) ∈
      eightForms .adcImm .adcZp .adcZpx .adcIzx .adcIzy .adcAbs .adcAbx .adcAby 0xFF 0x1234 := by decide

theorem test_witness_SbcSubtractsInBinary :
    ready.p.d = false ∧ { ready with cfg := Config.part2A03, p := Flags.ofByte 0x08 }.cfg.decimal = .ignored := by decide

/-- 99 and 99, 00 and 00, in decimal mode. -/
theorem test_witness_AdcAddsInDecimal :
    ∀ s ∈ [{ ready with a := 0x99, p := Flags.ofByte 0x08 }],
      s.p.d = true ∧ s.cfg.decimal = .supported ∧ s.a.toNat = 16 * 9 + 9 ∧
      ((Operand.imm 0x99).value s).toNat = 16 * 9 + 9 ∧ ((Operand.imm 0x00).value s).toNat = 16 * 0 + 0 := by decide

theorem test_witness_SbcSubtractsInDecimal :
    ∀ s ∈ [{ ready with a := 0x00, p := Flags.ofByte 0x08 }],
      s.p.d = true ∧ s.cfg.decimal = .supported ∧ s.a.toNat = 16 * 0 + 0 ∧
      ((Operand.imm 0x99).value s).toNat = 16 * 9 + 9 := by decide

theorem test_witness_ShiftsAndRotates :
    ready.cfg.hasRor = true ∧
    (Instr.rorZp 0x10, AddrForm.zp 0x10) ∈ fourForms .rorZp .rorZpx .rorAbs .rorAbx 0x10 0x1234 := by decide

theorem test_witness_NineRotatesRestoreAAndC : ready.cfg.hasRor = true := rfl

/-- The last address of a page and the one before it. -/
theorem test_witness_JumpsLoadPc :
    (0x0300 : Word).toNat = (0x03FF : Word).toNat / 256 * 256 + ((0x03FF : Word).toNat + 1) % 256 ∧
    (0x03FF : Word).toNat = (0x03FE : Word).toNat / 256 * 256 + ((0x03FE : Word).toNat + 1) % 256 := by decide

theorem test_witness_JsrAndRtsUseTheStack : ready.mem.wf ∧ StackIsRam ready := ⟨ready_wf, ready_stack⟩

theorem test_witness_RtsComesBackAfterTheJsr :
    ready.mem.wf ∧ StackIsRam ready ∧ ∃ t, exec (.jsr 0x1234) ready = .next t ∧
      { t with a := 0x07 }.sp = t.sp ∧
      ∀ d ∈ [(1 : Byte), 2], { t with a := 0x07 }.read .stack (stackAddr (t.sp + d)) =
        t.read .stack (stackAddr (t.sp + d)) :=
  ⟨ready_wf, ready_stack, _, rfl, rfl, fun _ _ => rfl⟩

theorem test_witness_ModifyThenArithmeticOpcodes :
    ready.p.d = false ∧ Config.part2A03.decimal = .ignored ∧
    (Instr.rraZp 0x10, AddrForm.zp 0x10) ∈
      sevenForms .rraZp .rraZpx .rraIzx .rraIzy .rraAbs .rraAbx .rraAby 0x10 0x1234 := by decide

/-- The decimal clauses: the new byte of RRA is 99h out of 33h with C = 1, that of ISC 00h out of FFh. -/
theorem test_witness_ModifyThenArithmeticOpcodes_decimal :
    (∀ s ∈ [{ start 0x0400 [] [(0x0010, 0x33)] with a := 0x99, p := Flags.ofByte 0x09 }],
      s.p.d = true ∧ s.cfg.decimal = .supported ∧ s.a.toNat = 16 * 9 + 9 ∧
      128 * s.p.c.toNat + ((AddrForm.zp 0x10).value s).toNat / 2 = 16 * 9 + 9) ∧
    ∀ s ∈ [{ start 0x0400 [] [(0x0010, 0xFF)] with a := 0x00, p := Flags.ofByte 0x08 }],
      s.p.d = true ∧ s.cfg.decimal = .supported ∧ s.a.toNat = 16 * 0 + 0 ∧
      (((AddrForm.zp 0x10).value s).toNat + 1) % 256 = 16 * 0 + 0 := by decide

theorem test_witness_ImmediateIllegalOpcodes : ready.p.d = false ∧ Config.part2A03.decimal = .ignored := by decide

/-- The effective address is the last of its page. -/
theorem test_witness_UnstableStoresWriteOneByte :
    (AddrForm.aby 0x02EF).crossesPage { ready with y := 0x10 } = false ∧
    (AddrForm.aby 0x02F0).crossesPage { ready with y := 0x10 } = true := by decide

end Sys2Proof.Tests
end

section
/-! SUPPORT. What every instruction does, said once: the outcome of `exec` beside the columns that the opcode listing
prints for the row. A statement over all instructions is then a case split over the outcomes, with the row's mnemonic,
length, form and flag column at hand in each case. -/

namespace Sys2Proof.Machine

/-- The columns of one row of the opcode listing (00_scope.md R7). -/
structure Row where
  mnemonic : Mnemonic
  length : Nat
  form : Option AddrForm
  flags : FlagColumn

/-- The row of an instruction; that of opcode BF depends on `LAX_BF_INDEX`. -/
def rowOf (cfg : Config) (i : Instr) : Row := ⟨mnemonicOf i, i.length, addrFormOf cfg i, flagColumn i⟩

/-- The form that gives an operand its effective address, where it has one. -/
def Operand.form : Operand → Option AddrForm
  | .imm _ => none
  | .mem f => some f

/-- The outcomes that the instructions of each mnemonic have from `s`, each with the columns of its row.
`exec_performed` says that there are no others. -/
inductive Performed (s : State) : Out → Row → Prop where
  | lda (o : Operand) : Performed s (.next (load .a o s)) ⟨.LDA, o.length, o.form, .nz⟩
  | ldx (o : Operand) : Performed s (.next (load .x o s)) ⟨.LDX, o.length, o.form, .nz⟩
  | ldy (o : Operand) : Performed s (.next (load .y o s)) ⟨.LDY, o.length, o.form, .nz⟩
  | tay : Performed s (.next (transfer .y .a s)) ⟨.TAY, 1, none, .nz⟩
  | tax : Performed s (.next (transfer .x .a s)) ⟨.TAX, 1, none, .nz⟩
  | tsx : Performed s (.next (transfer .x .sp s)) ⟨.TSX, 1, none, .nz⟩
  | tya : Performed s (.next (transfer .a .y s)) ⟨.TYA, 1, none, .nz⟩
  | txa : Performed s (.next (transfer .a .x s)) ⟨.TXA, 1, none, .nz⟩
  | txs : Performed s (.next ((s.set .sp s.x).advance 1)) ⟨.TXS, 1, none, .unchanged⟩
  | sta (f : AddrForm) : Performed s (.next (store f s.a s)) ⟨.STA, f.length, some f, .unchanged⟩
  | stx (f : AddrForm) : Performed s (.next (store f s.x s)) ⟨.STX, f.length, some f, .unchanged⟩
  | sty (f : AddrForm) : Performed s (.next (store f s.y s)) ⟨.STY, f.length, some f, .unchanged⟩
  | pha : Performed s (.next ((s.push s.a).advance 1)) ⟨.PHA, 1, none, .unchanged⟩
  | php : Performed s (.next ((s.push (s.p.pByte true)).advance 1)) ⟨.PHP, 1, none, .unchanged⟩
  | pla : Performed s (.next ((s.afterPull.move .a s.pulled).advance 1)) ⟨.PLA, 1, none, .nz⟩
  | plp : Performed s (.next (((s.afterPull.setP (Flags.ofByte s.pulled)).noteOldI s.p.i).advance 1))
      ⟨.PLP, 1, none, .all⟩
  | adc (o : Operand) : Performed s (.next (withOperand State.adc o s)) ⟨.ADC, o.length, o.form, .nzcv⟩
  | sbc (o : Operand) : Performed s (.next (withOperand State.sbc o s)) ⟨.SBC, o.length, o.form, .nzcv⟩
  | and (o : Operand) : Performed s (.next (withOperand State.andA o s)) ⟨.AND, o.length, o.form, .nz⟩
  | eor (o : Operand) : Performed s (.next (withOperand State.eorA o s)) ⟨.EOR, o.length, o.form, .nz⟩
  | ora (o : Operand) : Performed s (.next (withOperand State.oraA o s)) ⟨.ORA, o.length, o.form, .nz⟩
  | cmp (o : Operand) : Performed s (.next (withOperand (fun t m => t.compareWith .a m) o s))
      ⟨.CMP, o.length, o.form, .nzc⟩
  | cpx (o : Operand) : Performed s (.next (withOperand (fun t m => t.compareWith .x m) o s))
      ⟨.CPX, o.length, o.form, .nzc⟩
  | cpy (o : Operand) : Performed s (.next (withOperand (fun t m => t.compareWith .y m) o s))
      ⟨.CPY, o.length, o.form, .nzc⟩
  | bit (o : Operand) : Performed s (.next (withOperand State.bitTest o s)) ⟨.BIT, o.length, o.form, .bitTest⟩
  | inc (f : AddrForm) : Performed s (.next (stepMem incr f s)) ⟨.INC, f.length, some f, .nz⟩
  | dec (f : AddrForm) : Performed s (.next (stepMem decr f s)) ⟨.DEC, f.length, some f, .nz⟩
  | inx : Performed s (.next (stepReg incr .x s)) ⟨.INX, 1, none, .nz⟩
  | iny : Performed s (.next (stepReg incr .y s)) ⟨.INY, 1, none, .nz⟩
  | dex : Performed s (.next (stepReg decr .x s)) ⟨.DEX, 1, none, .nz⟩
  | dey : Performed s (.next (stepReg decr .y s)) ⟨.DEY, 1, none, .nz⟩
  | aslAcc : Performed s (.next (shiftAcc shl s)) ⟨.ASL, 1, none, .nzc⟩
  | lsrAcc : Performed s (.next (shiftAcc shr s)) ⟨.LSR, 1, none, .zeroZc⟩
  | rolAcc : Performed s (.next (shiftAcc rcl s)) ⟨.ROL, 1, none, .nzc⟩
  | rorAcc (h : s.cfg.hasRor = true) : Performed s (.next (shiftAcc rcr s)) ⟨.ROR, 1, none, .nzc⟩
  | asl (f : AddrForm) : Performed s (.next (shiftMem shl f s)) ⟨.ASL, f.length, some f, .nzc⟩
  | lsr (f : AddrForm) : Performed s (.next (shiftMem shr f s)) ⟨.LSR, f.length, some f, .zeroZc⟩
  | rol (f : AddrForm) : Performed s (.next (shiftMem rcl f s)) ⟨.ROL, f.length, some f, .nzc⟩
  | ror (f : AddrForm) (h : s.cfg.hasRor = true) :
      Performed s (.next (shiftMem rcr f s)) ⟨.ROR, f.length, some f, .nzc⟩
  | rorAbsent (r : Row) (hm : r.mnemonic = .ROR) (h : s.cfg.hasRor = false) : Performed s (.refused .rorAbsent) r
  | jmpAbs (nnnn : Word) : Performed s (.next (s.jump nnnn)) ⟨.JMP, 3, none, .unchanged⟩
  | jmpInd (nnnn : Word) : Performed s
      (.next ((s.log (s.rdWordOf .pointer nnnn (jumpHighAddr nnnn))).jump
        (s.readWord .pointer nnnn (jumpHighAddr nnnn))))
      ⟨.JMP, 3, none, .unchanged⟩
  | jsr (nnnn : Word) : Performed s (.next ((s.pushWord (s.pc + 2)).jump nnnn)) ⟨.JSR, 3, none, .unchanged⟩
  | rts : Performed s (.next (s.afterPull.afterPull.jump (s.pulledWord + 1))) ⟨.RTS, 1, none, .unchanged⟩
  | rti : Performed s (.next s.returnFromInterrupt) ⟨.RTI, 1, none, .all⟩
  | bpl (dd : Byte) : Performed s (.next (branch (!s.p.n) dd s)) ⟨.BPL, 2, none, .unchanged⟩
  | bmi (dd : Byte) : Performed s (.next (branch s.p.n dd s)) ⟨.BMI, 2, none, .unchanged⟩
  | bvc (dd : Byte) : Performed s (.next (branch (!s.p.v) dd s)) ⟨.BVC, 2, none, .unchanged⟩
  | bvs (dd : Byte) : Performed s (.next (branch s.p.v dd s)) ⟨.BVS, 2, none, .unchanged⟩
  | bcc (dd : Byte) : Performed s (.next (branch (!s.p.c) dd s)) ⟨.BCC, 2, none, .unchanged⟩
  | bcs (dd : Byte) : Performed s (.next (branch s.p.c dd s)) ⟨.BCS, 2, none, .unchanged⟩
  | bne (dd : Byte) : Performed s (.next (branch (!s.p.z) dd s)) ⟨.BNE, 2, none, .unchanged⟩
  | beq (dd : Byte) : Performed s (.next (branch s.p.z dd s)) ⟨.BEQ, 2, none, .unchanged⟩
  | brk : Performed s (.next (s.interrupt irqVector true (s.pc + 2))) ⟨.BRK, 1, none, .setI⟩
  | clc : Performed s (.next (setFlags { s.p with c := false } s)) ⟨.CLC, 1, none, .clearC⟩
  | cli : Performed s (.next ((setFlags { s.p with i := false } s).noteOldI s.p.i)) ⟨.CLI, 1, none, .clearI⟩
  | cld : Performed s (.next (setFlags { s.p with d := false } s)) ⟨.CLD, 1, none, .clearD⟩
  | clv : Performed s (.next (setFlags { s.p with v := false } s)) ⟨.CLV, 1, none, .clearV⟩
  | sec : Performed s (.next (setFlags { s.p with c := true } s)) ⟨.SEC, 1, none, .setC⟩
  | sei : Performed s (.next ((setFlags { s.p with i := true } s).noteOldI s.p.i)) ⟨.SEI, 1, none, .setI⟩
  | sed : Performed s (.next (setFlags { s.p with d := true } s)) ⟨.SED, 1, none, .setD⟩
  | nop (length : Nat) : Performed s (.next (s.advance length)) ⟨.NOP, length, none, .unchanged⟩
  | nopRead (f : AddrForm) : Performed s (.next (readOnly f s)) ⟨.NOP, f.length, some f, .unchanged⟩
  | sax (f : AddrForm) : Performed s (.next (store f (s.a &&& s.x) s)) ⟨.SAX, f.length, some f, .unchanged⟩
  | lax (f : AddrForm) : Performed s (.next (withOperand State.laxWith (.mem f) s)) ⟨.LAX, f.length, some f, .nz⟩
  | slo (f : AddrForm) : Performed s (.next (shiftThen shl State.oraA f s)) ⟨.SLO, f.length, some f, .nzc⟩
  | rla (f : AddrForm) : Performed s (.next (shiftThen rcl State.andA f s)) ⟨.RLA, f.length, some f, .nzc⟩
  | sre (f : AddrForm) : Performed s (.next (shiftThen shr State.eorA f s)) ⟨.SRE, f.length, some f, .nzc⟩
  | rra (f : AddrForm) : Performed s (.next (shiftThen rcr State.adc f s)) ⟨.RRA, f.length, some f, .nzcv⟩
  | dcp (f : AddrForm) : Performed s (.next (stepThen decr (fun t m => t.compareWith .a m) f s))
      ⟨.DCP, f.length, some f, .nzc⟩
  | isc (f : AddrForm) : Performed s (.next (stepThen incr State.sbc f s)) ⟨.ISC, f.length, some f, .nzcv⟩
  | anc (nn : Byte) : Performed s (.next (withOperand State.anc (.imm nn) s)) ⟨.ANC, 2, none, .nzc⟩
  | alr (nn : Byte) : Performed s (.next (withOperand State.alr (.imm nn) s)) ⟨.ALR, 2, none, .nzc⟩
  | arr (nn : Byte) : Performed s (.next (withOperand State.arr (.imm nn) s)) ⟨.ARR, 2, none, .nzcv⟩
  | xaa : Performed s (.next (s.xaa.advance 2)) ⟨.XAA, 2, none, .nz⟩
  | laxImm : Performed s (.next (s.laxImmediate.advance 2)) ⟨.LAX, 2, none, .nz⟩
  | axs (nn : Byte) : Performed s (.next (withOperand State.axs (.imm nn) s)) ⟨.AXS, 2, none, .nzc⟩
  | ahx (f : AddrForm) : Performed s (.next (unstableStore f s)) ⟨.AHX, f.length, some f, .unchanged⟩
  | shy (f : AddrForm) : Performed s (.next (unstableStore f s)) ⟨.SHY, f.length, some f, .unchanged⟩
  | shx (f : AddrForm) : Performed s (.next (unstableStore f s)) ⟨.SHX, f.length, some f, .unchanged⟩
  | tas (f : AddrForm) : Performed s (.next (unstableStore f (s.set .sp (s.a &&& s.x))))
      ⟨.TAS, f.length, some f, .unchanged⟩
  | las (f : AddrForm) : Performed s (.next (withOperand State.las (.mem f) s)) ⟨.LAS, f.length, some f, .nz⟩
  | kil : Performed s (.next s.halt) ⟨.KIL, 1, none, .unchanged⟩

/-- The five ROR opcodes (42_rotate_shift.md R185). -/
theorem performed_ifRor {s t : State} {r : Row} (hm : r.mnemonic = .ROR)
    (h : s.cfg.hasRor = true → Performed s (.next t) r) : Performed s (ifRor s t) r := by
  unfold ifRor
  split
  · next hr => exact h hr
  · next hr => exact .rorAbsent r hm (by simpa using hr)

/-- Opcode BF, whose form the parameter `LAX_BF_INDEX` gives (44_illegal_opcodes.md R232). -/
theorem performed_laxAbx (nnnn : Word) (s : State) :
    Performed s (exec (.laxAbx nnnn) s) (rowOf s.cfg (.laxAbx nnnn)) := by
  have hrow : rowOf s.cfg (.laxAbx nnnn) =
      ⟨.LAX, (laxBfForm s.cfg nnnn).length, some (laxBfForm s.cfg nnnn), .nz⟩ := by
    unfold rowOf addrFormOf laxBfForm
    cases s.cfg.laxBfIndex <;> rfl
  rw [hrow]
  exact .lax (laxBfForm s.cfg nnnn)

/-- What every instruction does, with the columns of its row. -/
theorem exec_performed (i : Instr) (s : State) : Performed s (exec i s) (rowOf s.cfg i) := by
  cases i with
  | ldaImm | ldaZp | ldaZpx | ldaIzx | ldaIzy | ldaAbs | ldaAbx | ldaAby => exact .lda _
  | ldxImm | ldxZp | ldxZpy | ldxAbs | ldxAby => exact .ldx _
  | ldyImm | ldyZp | ldyZpx | ldyAbs | ldyAbx => exact .ldy _
  | tay => exact .tay
  | tax => exact .tax
  | tsx => exact .tsx
  | tya => exact .tya
  | txa => exact .txa
  | txs => exact .txs
  | staZp | staZpx | staIzx | staIzy | staAbs | staAbx | staAby => exact .sta _
  | stxZp | stxZpy | stxAbs => exact .stx _
  | styZp | styZpx | styAbs => exact .sty _
  | pha => exact .pha
  | php => exact .php
  | pla => exact .pla
  | plp => exact .plp
  | adcImm | adcZp | adcZpx | adcIzx | adcIzy | adcAbs | adcAbx | adcAby => exact .adc _
  | sbcImm | sbcImmEB | sbcZp | sbcZpx | sbcIzx | sbcIzy | sbcAbs | sbcAbx | sbcAby => exact .sbc _
  | andImm | andZp | andZpx | andIzx | andIzy | andAbs | andAbx | andAby => exact .and _
  | eorImm | eorZp | eorZpx | eorIzx | eorIzy | eorAbs | eorAbx | eorAby => exact .eor _
  | oraImm | oraZp | oraZpx | oraIzx | oraIzy | oraAbs | oraAbx | oraAby => exact .ora _
  | cmpImm | cmpZp | cmpZpx | cmpIzx | cmpIzy | cmpAbs | cmpAbx | cmpAby => exact .cmp _
  | cpxImm | cpxZp | cpxAbs => exact .cpx _
  | cpyImm | cpyZp | cpyAbs => exact .cpy _
  | bitZp | bitAbs => exact .bit _
  | incZp | incZpx | incAbs | incAbx => exact .inc _
  | decZp | decZpx | decAbs | decAbx => exact .dec _
  | inx => exact .inx
  | iny => exact .iny
  | dex => exact .dex
  | dey => exact .dey
  | aslAcc => exact .aslAcc
  | lsrAcc => exact .lsrAcc
  | rolAcc => exact .rolAcc
  | rorAcc => exact performed_ifRor rfl .rorAcc
  | aslZp | aslZpx | aslAbs | aslAbx => exact .asl _
  | lsrZp | lsrZpx | lsrAbs | lsrAbx => exact .lsr _
  | rolZp | rolZpx | rolAbs | rolAbx => exact .rol _
  | rorZp | rorZpx | rorAbs | rorAbx => exact performed_ifRor rfl (.ror _)
  | jmpAbs nnnn => exact .jmpAbs nnnn
  | jmpInd nnnn => exact .jmpInd nnnn
  | jsr nnnn => exact .jsr nnnn
  | rts => exact .rts
  | rti => exact .rti
  | bpl dd => exact .bpl dd
  | bmi dd => exact .bmi dd
  | bvc dd => exact .bvc dd
  | bvs dd => exact .bvs dd
  | bcc dd => exact .bcc dd
  | bcs dd => exact .bcs dd
  | bne dd => exact .bne dd
  | beq dd => exact .beq dd
  | brk => exact .brk
  | clc => exact .clc
  | cli => exact .cli
  | cld => exact .cld
  | clv => exact .clv
  | sec => exact .sec
  | sei => exact .sei
  | sed => exact .sed
  | nop | nop1A | nop3A | nop5A | nop7A | nopDA | nopFA => exact .nop 1
  | nopImm80 | nopImm82 | nopImm89 | nopImmC2 | nopImmE2 => exact .nop 2
  | nopZp04 | nopZp44 | nopZp64 | nopZpx14 | nopZpx34 | nopZpx54 | nopZpx74 | nopZpxD4 | nopZpxF4 | nopAbs0C
  | nopAbx1C | nopAbx3C | nopAbx5C | nopAbx7C | nopAbxDC | nopAbxFC => exact .nopRead _
  | saxZp | saxZpy | saxIzx | saxAbs => exact .sax _
  | laxZp | laxZpy | laxIzx | laxIzy | laxAbs => exact .lax _
  | laxAbx nnnn => exact performed_laxAbx nnnn s
  | sloZp | sloZpx | sloIzx | sloIzy | sloAbs | sloAbx | sloAby => exact .slo _
  | rlaZp | rlaZpx | rlaIzx | rlaIzy | rlaAbs | rlaAbx | rlaAby => exact .rla _
  | sreZp | sreZpx | sreIzx | sreIzy | sreAbs | sreAbx | sreAby => exact .sre _
  | rraZp | rraZpx | rraIzx | rraIzy | rraAbs | rraAbx | rraAby => exact .rra _
  | dcpZp | dcpZpx | dcpIzx | dcpIzy | dcpAbs | dcpAbx | dcpAby => exact .dcp _
  | iscZp | iscZpx | iscIzx | iscIzy | iscAbs | iscAbx | iscAby => exact .isc _
  | anc0B nn | anc2B nn => exact .anc nn
  | alr nn => exact .alr nn
  | arr nn => exact .arr nn
  | xaa => exact .xaa
  | laxImm => exact .laxImm
  | axs nn => exact .axs nn
  | ahxIzy | ahxAby => exact .ahx _
  | shy => exact .shy _
  | shx => exact .shx _
  | tas => exact .tas _
  | las => exact .las _
  | kil02 | kil12 | kil22 | kil32 | kil42 | kil52 | kil62 | kil72 | kil92 | kilB2 | kilD2 | kilF2 => exact .kil

end Sys2Proof.Machine
end

section
/-! PROOF. What an instruction leaves to the environment, and the counter, parameters, pin changes and lines after every
step (O8). -/

namespace Sys2Proof.Machine

theorem SameSurroundings.trans {s t u : State} (hst : SameSurroundings s t) (htu : SameSurroundings t u) :
    SameSurroundings s u := by
  obtain ⟨hl, hi, hn, ht, hc⟩ := hst
  obtain ⟨hl', hi', hn', ht', hc'⟩ := htu
  exact ⟨hl'.trans hl, hi'.trans hi, hn'.trans hn, ht'.trans ht, hc'.trans hc⟩

theorem State.sameSurroundings_move (s : State) (r : Reg) (v : Byte) : SameSurroundings s (s.move r v) := by
  simp [SameSurroundings, State.move]

theorem State.sameSurroundings_adc (s : State) (m : Byte) : SameSurroundings s (s.adc m) := by
  rw [State.adc_frame]
  exact ⟨rfl, rfl, rfl, rfl, rfl⟩

theorem State.sameSurroundings_sbc (s : State) (m : Byte) : SameSurroundings s (s.sbc m) := by
  rw [State.sbc_frame]
  exact ⟨rfl, rfl, rfl, rfl, rfl⟩

theorem State.sameSurroundings_arr (s : State) (m : Byte) : SameSurroundings s (s.arr m) := by
  rw [State.arr_frame]
  exact ⟨rfl, rfl, rfl, rfl, rfl⟩

theorem State.sameSurroundings_compareWith (r : Reg) (s : State) (m : Byte) :
    SameSurroundings s (s.compareWith r m) := by
  rw [State.compareWith_eq]
  exact ⟨rfl, rfl, rfl, rfl, rfl⟩

/-- An operand read, what is done with its value, and the advance of PC leave what the middle one leaves. -/
theorem sameSurroundings_withOperand {g : State → Byte → State} (hg : ∀ t m, SameSurroundings t (g t m)) (o : Operand)
    (s : State) : SameSurroundings s (withOperand g o s) :=
  hg (s.log (o.reads s)) (o.value s)

theorem sameSurroundings_shiftThen (op : Byte → Bool → Shifted) {g : State → Byte → State}
    (hg : ∀ t m, SameSurroundings t (g t m)) (f : AddrForm) (s : State) : SameSurroundings s (shiftThen op g f s) :=
  hg ((s.rmw f (op (f.value s) s.p.c).value).setC (op (f.value s) s.p.c).carry) (op (f.value s) s.p.c).value

theorem sameSurroundings_stepThen (h : Byte → Byte) {g : State → Byte → State}
    (hg : ∀ t m, SameSurroundings t (g t m)) (f : AddrForm) (s : State) : SameSurroundings s (stepThen h g f s) :=
  hg (s.rmw f (h (f.value s))) (h (f.value s))

/-- No outcome of an instruction moves what the environment and the step around it move. -/
theorem Performed.sameSurroundings {s t : State} {r : Row} (h : Performed s (.next t) r) : SameSurroundings s t := by
  cases h with
  | lda | ldx | ldy => simp [SameSurroundings, load_eq]
  | tay | tax | tsx | tya | txa => simp [SameSurroundings, transfer_eq]
  | sta | stx | sty | sax => simp [SameSurroundings, store_eq]
  | ahx | shy | shx | tas => simp [SameSurroundings, unstableStore_eq]
  | inc | dec => simp [SameSurroundings, stepMem_eq]
  | inx | iny | dex | dey => simp [SameSurroundings, stepReg_eq]
  | aslAcc | lsrAcc | rolAcc | rorAcc => simp [SameSurroundings, shiftAcc_eq]
  | asl | lsr | rol | ror => simp [SameSurroundings, shiftMem_eq]
  | bpl | bmi | bvc | bvs | bcc | bcs | bne | beq => simp [SameSurroundings, branch_eq]
  | clc | cli | cld | clv | sec | sei | sed => simp [SameSurroundings, setFlags_eq]
  | nopRead => simp [SameSurroundings, readOnly_eq]
  | txs | pha | php | plp | jmpAbs | jmpInd | jsr | rts | rti | brk | nop | kil => simp [SameSurroundings]
  | pla => exact State.sameSurroundings_move s.afterPull .a s.pulled
  | xaa | laxImm => simp [SameSurroundings, State.xaa, State.laxImmediate]
  | adc => exact sameSurroundings_withOperand State.sameSurroundings_adc _ s
  | sbc => exact sameSurroundings_withOperand State.sameSurroundings_sbc _ s
  | arr => exact sameSurroundings_withOperand State.sameSurroundings_arr _ s
  | and | eor | ora => exact sameSurroundings_withOperand (fun t _ => t.sameSurroundings_move .a _) _ s
  | cmp | cpx | cpy => exact sameSurroundings_withOperand (State.sameSurroundings_compareWith _) _ s
  | bit => simp [SameSurroundings, withOperand_eq, State.bitTest]
  | anc | alr | axs | lax | las =>
    simp [SameSurroundings, withOperand_eq, State.anc, State.alr, State.axs, State.laxWith, State.las, State.move]
  | slo | rla | sre => exact sameSurroundings_shiftThen _ (fun t _ => t.sameSurroundings_move .a _) _ s
  | rra => exact sameSurroundings_shiftThen rcr State.sameSurroundings_adc _ s
  | dcp => exact sameSurroundings_stepThen decr (State.sameSurroundings_compareWith .a) _ s
  | isc => exact sameSurroundings_stepThen incr State.sameSurroundings_sbc _ s

theorem exec_sameSurroundings {i : Instr} {s t : State} (h : exec i s = .next t) : SameSurroundings s t :=
  (h ▸ exec_performed i s).sameSurroundings

theorem State.sameSurroundings_afterFetch (s : State) : SameSurroundings s s.afterFetch := ⟨rfl, rfl, rfl, rfl, rfl⟩

theorem SameSurroundings.of_boundary {s t : State} (h : SameSurroundings s.boundary t) :
    t.tick = s.tick + 1 ∧ t.cfg = s.cfg ∧ t.inputs = s.inputs.tail ∧ t.lines = s.boundary.lines := by
  obtain ⟨hlines, hinputs, -, htick, hcfg⟩ := h
  exact ⟨by rw [htick, State.boundary_tick], by rw [hcfg, State.boundary_cfg],
    by rw [hinputs, State.boundary_inputs], hlines⟩

/-- Settles O8: the boundary advances the counter and takes the entry, and nothing that the CPU does after it moves
these four: in turn RESET, the halted CPU, NMI, IRQ and an instruction. -/
theorem everyStepTakesFreshFreeValues : Obligations.EveryStepTakesFreshFreeValues := by
  intro s t h
  rcases step_cases h with ⟨hreset, rfl⟩ | ⟨hhalted, -, rfl⟩ | ⟨hnmi, rfl⟩ | ⟨hirq, rfl⟩ | ⟨hinstruction, hexec⟩
  · simp
  · simp
  · simp [State.takeNmi]
  · simp [State.takeIrq]
  · exact (s.boundary.sameSurroundings_afterFetch.trans (exec_sameSurroundings hexec)).of_boundary

end Sys2Proof.Machine
end

section
/-! PROOF. What a flag column says of the flags before and after, and that every instruction obeys its own (O23). -/

namespace Sys2Proof.Machine

/-- What one position of a flag column says of the flag before and after (00_scope.md R7). -/
def FlagCell.Allows (cell : FlagCell) (old new : Bool) : Prop :=
  (cell = .kept → new = old) ∧ (cell = .cleared → new = false) ∧ (cell = .set → new = true)

@[simp] theorem FlagCell.kept_allows {old new : Bool} : FlagCell.kept.Allows old new ↔ new = old := by
  simp [FlagCell.Allows]

@[simp] theorem FlagCell.written_allows {old new : Bool} : FlagCell.written.Allows old new := by simp [FlagCell.Allows]

@[simp] theorem FlagCell.cleared_allows {old new : Bool} : FlagCell.cleared.Allows old new ↔ new = false := by
  simp [FlagCell.Allows]

@[simp] theorem FlagCell.set_allows {old new : Bool} : FlagCell.set.Allows old new ↔ new = true := by
  simp [FlagCell.Allows]

@[simp] theorem FlagCell.loaded_allows {old new : Bool} : FlagCell.loaded.Allows old new := by simp [FlagCell.Allows]

/-- Each position of a flag column allows what became of its flag. -/
structure FlagColumn.Allows (col : FlagColumn) (p q : Flags) : Prop where
  n : col.n.Allows p.n q.n
  z : col.z.Allows p.z q.z
  c : col.c.Allows p.c q.c
  i : col.i.Allows p.i q.i
  d : col.d.Allows p.d q.d
  v : col.v.Allows p.v q.v

theorem FlagColumn.unchanged_allows {p q : Flags} (h : q = p) : FlagColumn.unchanged.Allows p q := by
  subst h
  constructor <;> simp [FlagColumn.unchanged]

theorem FlagColumn.nz_allows {p q : Flags} (hc : q.c = p.c) (hi : q.i = p.i) (hd : q.d = p.d) (hv : q.v = p.v) :
    FlagColumn.nz.Allows p q := by
  constructor <;> simp [FlagColumn.nz, *]

theorem FlagColumn.nzc_allows {p q : Flags} (hi : q.i = p.i) (hd : q.d = p.d) (hv : q.v = p.v) :
    FlagColumn.nzc.Allows p q := by
  constructor <;> simp [FlagColumn.nzc, *]

theorem FlagColumn.nzcv_allows {p q : Flags} (hi : q.i = p.i) (hd : q.d = p.d) : FlagColumn.nzcv.Allows p q := by
  constructor <;> simp [FlagColumn.nzcv, *]

theorem FlagColumn.zeroZc_allows {p q : Flags} (hn : q.n = false) (hi : q.i = p.i) (hd : q.d = p.d) (hv : q.v = p.v) :
    FlagColumn.zeroZc.Allows p q := by
  constructor <;> simp [FlagColumn.zeroZc, *]

theorem FlagColumn.bitTest_allows {p q : Flags} (hc : q.c = p.c) (hi : q.i = p.i) (hd : q.d = p.d) :
    FlagColumn.bitTest.Allows p q := by
  constructor <;> simp [FlagColumn.bitTest, *]

theorem FlagColumn.all_allows {p q : Flags} : FlagColumn.all.Allows p q := by
  constructor <;> simp [FlagColumn.all]

/-! ## The operations that decide -/

theorem State.nzcv_adc (s : State) (m : Byte) : FlagColumn.nzcv.Allows s.p (s.adc m).p := by
  rw [State.adc_frame]
  exact FlagColumn.nzcv_allows rfl rfl

theorem State.nzcv_sbc (s : State) (m : Byte) : FlagColumn.nzcv.Allows s.p (s.sbc m).p := by
  rw [State.sbc_frame]
  exact FlagColumn.nzcv_allows rfl rfl

theorem State.nzcv_arr (s : State) (m : Byte) : FlagColumn.nzcv.Allows s.p (s.arr m).p := by
  rw [State.arr_frame]
  exact FlagColumn.nzcv_allows rfl rfl

@[simp] theorem branch_p (taken : Bool) (dd : Byte) (s : State) : (branch taken dd s).p = s.p := by rw [branch_eq]

/-- A shift right moves a 0 into bit 7 (42_rotate_shift.md R180). -/
@[simp] theorem shr_value_bit7 (v : Byte) (c : Bool) : (shr v c).value.getLsbD 7 = false := by
  simp [shr]

/-! ## Every instruction -/

theorem Performed.flags_allows {s t : State} {r : Row} (h : Performed s (.next t) r) : r.flags.Allows s.p t.p := by
  cases h with
  | txs | sta | stx | sty | pha | php | jmpAbs | jmpInd | jsr | rts | nop | nopRead | sax | ahx | shy | shx | tas
  | kil => exact FlagColumn.unchanged_allows rfl
  | bpl | bmi | bvc | bvs | bcc | bcs | bne | beq => exact FlagColumn.unchanged_allows (branch_p _ _ s)
  | lda | ldx | ldy | tay | tax | tsx | tya | txa | pla | and | eor | ora | inc | dec | inx | iny | dex | dey | lax
  | xaa | laxImm | las => exact FlagColumn.nz_allows rfl rfl rfl rfl
  | cmp | cpx | cpy | aslAcc | rolAcc | rorAcc | asl | rol | ror | slo | rla | sre | dcp | anc | alr | axs =>
    exact FlagColumn.nzc_allows rfl rfl rfl
  | adc o => exact State.nzcv_adc (s.log (o.reads s)) (o.value s)
  | sbc o => exact State.nzcv_sbc (s.log (o.reads s)) (o.value s)
  | arr nn => exact State.nzcv_arr (s.log []) nn
  | rra f =>
    obtain ⟨-, -, -, hi, hd, -⟩ := State.nzcv_adc
      ((s.rmw f (rcr (f.value s) s.p.c).value).setC (rcr (f.value s) s.p.c).carry) (rcr (f.value s) s.p.c).value
    exact FlagColumn.nzcv_allows (FlagCell.kept_allows.1 hi) (FlagCell.kept_allows.1 hd)
  | isc f => exact State.nzcv_sbc (s.rmw f (incr (f.value s))) (incr (f.value s))
  | lsrAcc => exact FlagColumn.zeroZc_allows (shr_value_bit7 _ _) rfl rfl rfl
  | lsr f => exact FlagColumn.zeroZc_allows (shr_value_bit7 _ _) rfl rfl rfl
  | bit => exact FlagColumn.bitTest_allows rfl rfl rfl
  | plp | rti => exact FlagColumn.all_allows
  | clc => constructor <;> simp [FlagColumn.clearC, setFlags_eq]
  | cli => constructor <;> simp [FlagColumn.clearI, setFlags_eq]
  | cld => constructor <;> simp [FlagColumn.clearD, setFlags_eq]
  | clv => constructor <;> simp [FlagColumn.clearV, setFlags_eq]
  | sec => constructor <;> simp [FlagColumn.setC, setFlags_eq]
  | sei => constructor <;> simp [FlagColumn.setI, setFlags_eq]
  | sed => constructor <;> simp [FlagColumn.setD, setFlags_eq]
  | brk => constructor <;> simp [FlagColumn.setI]

theorem exec_flags_allowed {i : Instr} {s t : State} (h : exec i s = .next t) : (flagColumn i).Allows s.p t.p :=
  (h ▸ exec_performed i s).flags_allows

/-- Settles O23, by `exec_flags_allowed`: each entry of the list is one position of the flag column. -/
theorem instructionsObeyTheirFlagColumns : Obligations.InstructionsObeyTheirFlagColumns := by
  intro i s t h
  obtain ⟨hn, hz, hc, hi, hd, hv⟩ := exec_flags_allowed h
  simp only [List.forall_mem_cons, List.not_mem_nil, false_implies, implies_true, and_true]
  exact ⟨hn, hz, hc, hi, hd, hv⟩

end Sys2Proof.Machine
end

section
/-! PROOF. Effective addresses of the direct and indexed forms as numbers, and what an operand reads (O27). -/

namespace Sys2Proof.Machine

theorem zext16_toNat (v : Byte) : (zext16 v).toNat = v.toNat := by
  have := v.isLt
  simp only [zext16, BitVec.toNat_setWidth]
  omega

/-- An index added within page 0 (30_encoding.md R98, R99). -/
theorem zext16_add_toNat (nn i : Byte) : (zext16 (nn + i)).toNat = (nn.toNat + i.toNat) % 256 := by
  rw [zext16_toNat, BitVec.toNat_add]

/-- An index added modulo 10000h (30_encoding.md R101, R102). -/
theorem add_zext16_toNat (nnnn : Word) (i : Byte) : (nnnn + zext16 i).toNat = (nnnn.toNat + i.toNat) % 65536 := by
  rw [BitVec.toNat_add, zext16_toNat]

/-- Settles O27: the operand clauses are the definitions of `value`, `reads` and `length`; the addresses are the three
lemmas above, and `nn` and `nnnn` where no index is added. -/
theorem effectiveAddressesOfDirectForms : Obligations.EffectiveAddressesOfDirectForms := by
  intro s nn nnnn
  refine ⟨⟨rfl, rfl, rfl⟩, fun f => ⟨rfl, rfl, rfl, rfl, rfl⟩, zext16_toNat nn, zext16_add_toNat nn s.x,
    zext16_add_toNat nn s.y, rfl, add_zext16_toNat nnnn s.x, add_zext16_toNat nnnn s.y, ?_, ?_⟩
  · simp [AddrForm.length, AddrForm.pointerReads, AddrForm.pointer]
  · simp [AddrForm.length, AddrForm.pointerReads, AddrForm.pointer]

end Sys2Proof.Machine
end

section
/-! PROOF. What an instruction leaves of A, X, Y, S and `halted`, and where it leaves PC (O22, O24, O25). -/

namespace Sys2Proof.Machine

/-! ## The operations that decide -/

@[simp] theorem State.adc_keeps (s : State) (m : Byte) :
    (s.adc m).x = s.x ∧ (s.adc m).y = s.y ∧ (s.adc m).sp = s.sp ∧ (s.adc m).pc = s.pc ∧
    (s.adc m).halted = s.halted := by
  rw [State.adc_frame]
  exact ⟨rfl, rfl, rfl, rfl, rfl⟩

@[simp] theorem State.sbc_keeps (s : State) (m : Byte) :
    (s.sbc m).x = s.x ∧ (s.sbc m).y = s.y ∧ (s.sbc m).sp = s.sp ∧ (s.sbc m).pc = s.pc ∧
    (s.sbc m).halted = s.halted := by
  rw [State.sbc_frame]
  exact ⟨rfl, rfl, rfl, rfl, rfl⟩

@[simp] theorem State.arr_keeps (s : State) (m : Byte) :
    (s.arr m).x = s.x ∧ (s.arr m).y = s.y ∧ (s.arr m).sp = s.sp ∧ (s.arr m).pc = s.pc ∧
    (s.arr m).halted = s.halted := by
  rw [State.arr_frame]
  exact ⟨rfl, rfl, rfl, rfl, rfl⟩

@[simp] theorem branch_keeps (taken : Bool) (dd : Byte) (s : State) :
    (branch taken dd s).a = s.a ∧ (branch taken dd s).x = s.x ∧ (branch taken dd s).y = s.y ∧
    (branch taken dd s).sp = s.sp ∧ (branch taken dd s).halted = s.halted := by
  rw [branch_eq]
  exact ⟨rfl, rfl, rfl, rfl, rfl⟩

/-! ## The registers, each with the instructions that write it

Each split over the outcomes names first the instructions that the hypothesis excludes, then those that need the lemmas
above or the record update of their operation; in the others the register is not mentioned at all. -/

/-- The instructions that write A (10_state.md R21); the four shifts only in their accumulator form. -/
abbrev writersOfA : List Mnemonic :=
  [.LDA, .TXA, .TYA, .PLA, .ADC, .SBC, .AND, .EOR, .ORA, .ASL, .LSR, .ROL, .ROR, .LAX, .SLO, .RLA, .SRE, .RRA, .ISC,
    .ANC, .ALR, .ARR, .XAA, .LAS]

/-- The instructions that write X (10_state.md R22). -/
abbrev writersOfX : List Mnemonic := [.LDX, .TAX, .TSX, .INX, .DEX, .LAX, .AXS, .LAS]

/-- The instructions that write Y (10_state.md R23). -/
abbrev writersOfY : List Mnemonic := [.LDY, .TAY, .INY, .DEY]

/-- The instructions that write S (10_state.md R26). -/
abbrev writersOfS : List Mnemonic := [.TXS, .PHA, .PHP, .PLA, .PLP, .JSR, .RTS, .RTI, .BRK, .TAS, .LAS]

/-- The instructions that transfer control, and KIL, after which PC is not observable (10_state.md R25). -/
abbrev movesPcOtherwise : List Mnemonic :=
  [.JMP, .JSR, .RTS, .RTI, .BRK, .KIL, .BPL, .BMI, .BVC, .BVS, .BCC, .BCS, .BNE, .BEQ]

section
variable {s t : State} {r : Row}

theorem Performed.a_kept (h : Performed s (.next t) r) (hr : r.mnemonic ∉ writersOfA) : t.a = s.a := by
  cases h with
  | lda | txa | tya | pla | adc | sbc | and | eor | ora | aslAcc | lsrAcc | rolAcc | rorAcc | asl | lsr | rol | ror
  | lax | laxImm | slo | rla | sre | rra | isc | anc | alr | arr | xaa | las => simp at hr
  | bpl | bmi | bvc | bvs | bcc | bcs | bne | beq => simp
  | plp | jsr | rts | rti | brk => simp
  | _ => rfl

/-- A shift or rotate with an effective address changes the byte there and not A (42_rotate_shift.md R186). -/
theorem Performed.a_kept_of_shift_in_memory (h : Performed s (.next t) r)
    (hr : r.mnemonic ∈ [.ASL, .LSR, .ROL, .ROR]) (hf : r.form ≠ none) : t.a = s.a := by
  cases h with
  | aslAcc | lsrAcc | rolAcc | rorAcc => exact absurd rfl hf
  | asl | lsr | rol | ror => simp [shiftMem_eq]
  | _ => simp at hr

theorem Performed.x_kept (h : Performed s (.next t) r) (hr : r.mnemonic ∉ writersOfX) : t.x = s.x := by
  cases h with
  | ldx | tax | tsx | inx | dex | lax | laxImm | axs | las => simp at hr
  | adc | sbc | arr | rra | isc => simp [withOperand_eq, shiftThen_eq, stepThen_eq, State.rmw_eq]
  | asl | lsr | rol | ror => simp [shiftMem_eq]
  | bpl | bmi | bvc | bvs | bcc | bcs | bne | beq => simp
  | plp | jsr | rts | rti | brk => simp
  | _ => rfl

theorem Performed.y_kept (h : Performed s (.next t) r) (hr : r.mnemonic ∉ writersOfY) : t.y = s.y := by
  cases h with
  | ldy | tay | iny | dey => simp at hr
  | adc | sbc | arr | rra | isc => simp [withOperand_eq, shiftThen_eq, stepThen_eq, State.rmw_eq]
  | asl | lsr | rol | ror => simp [shiftMem_eq]
  | bpl | bmi | bvc | bvs | bcc | bcs | bne | beq => simp
  | plp | jsr | rts | rti | brk => simp
  | _ => rfl

theorem Performed.sp_kept (h : Performed s (.next t) r) (hr : r.mnemonic ∉ writersOfS) : t.sp = s.sp := by
  cases h with
  | txs | pha | php | pla | plp | jsr | rts | rti | brk | tas | las => simp at hr
  | adc | sbc | arr | rra | isc => simp [withOperand_eq, shiftThen_eq, stepThen_eq, State.rmw_eq]
  | asl | lsr | rol | ror => simp [shiftMem_eq]
  | bpl | bmi | bvc | bvs | bcc | bcs | bne | beq => simp
  | _ => rfl

/-- KIL alone halts the CPU (44_illegal_opcodes.md R270). -/
theorem Performed.halted_eq (h : Performed s (.next t) r) :
    t.halted = (s.halted || decide (r.mnemonic = .KIL)) := by
  cases h with
  | kil => exact (Bool.or_true s.halted).symm
  | adc | sbc | arr | rra | isc => simp [withOperand_eq, shiftThen_eq, stepThen_eq, State.rmw_eq]
  | asl | lsr | rol | ror => simp [shiftMem_eq]
  | bpl | bmi | bvc | bvs | bcc | bcs | bne | beq => simp
  | plp | jsr | rts | rti | brk => simp
  | _ => exact (Bool.or_false s.halted).symm

/-- PC moves on by the length of the row (10_state.md R25). -/
theorem Performed.pc_eq (h : Performed s (.next t) r) (hr : r.mnemonic ∉ movesPcOtherwise) :
    t.pc = s.pc + BitVec.ofNat 16 r.length := by
  cases h with
  | jmpAbs | jmpInd | jsr | rts | rti | brk | kil | bpl | bmi | bvc | bvs | bcc | bcs | bne | beq => simp at hr
  | adc | sbc | arr | rra | isc => simp [withOperand_eq, shiftThen_eq, stepThen_eq, State.rmw_eq, Operand.length]
  | _ => rfl

end

/-- An instruction that completes, as one of the outcomes of `Performed`. -/
theorem performed_of_exec {i : Instr} {s t : State} (h : exec i s = .next t) :
    Performed s (.next t) (rowOf s.cfg i) := h ▸ exec_performed i s

/-- Settles O22: the surroundings by `exec_sameSurroundings`, `halted` by the outcomes, of which KIL's alone sets it. -/
theorem instructionsLeaveTheSurroundings : Obligations.InstructionsLeaveTheSurroundings :=
  fun _ _ _ h => ⟨exec_sameSurroundings h, (performed_of_exec h).halted_eq⟩

/-- Settles O24, register by register. -/
theorem registersAreWrittenByTheNamedInstructionsOnly : Obligations.RegistersAreWrittenByTheNamedInstructionsOnly := by
  intro i s t h
  have hp := performed_of_exec h
  exact ⟨hp.a_kept, hp.a_kept_of_shift_in_memory, hp.x_kept, hp.y_kept, hp.sp_kept⟩

/-- Settles O25: the sum modulo 10000h of `Performed.pc_eq`, as a number. -/
theorem pcAdvancesByTheLength : Obligations.PcAdvancesByTheLength := by
  intro i s t h hm
  have hpc : t.pc = s.pc + BitVec.ofNat 16 i.length := (performed_of_exec h).pc_eq hm
  rw [hpc, BitVec.toNat_add, BitVec.toNat_ofNat, Nat.add_mod_mod]

end Sys2Proof.Machine
end

section
/-! PROOF. Pin changes: the levels they leave, and the latch of /NMI (O15). -/

namespace Sys2Proof.Machine

theorem State.driveAll_cons (s : State) (ch : PinChange) (l : List PinChange) :
    s.driveAll (ch :: l) = (s.drive ch).driveAll l := rfl

@[simp] theorem State.cfg_drive (s : State) (ch : PinChange) : (s.drive ch).cfg = s.cfg := by
  unfold State.drive
  cases ch.line <;> rfl

/-- A line that no change drives keeps its level. -/
theorem State.level_driveAll_of_not_driven {line : Line} {changes : List PinChange}
    (h : ∀ ch ∈ changes, ch.line ≠ line) (s : State) : (s.driveAll changes).lines.level line = s.lines.level line := by
  induction changes generalizing s with
  | nil => rfl
  | cons ch rest ih =>
    obtain ⟨hch, hrest⟩ := List.forall_mem_cons.1 h
    rw [State.driveAll_cons, ih hrest, State.level_drive, if_neg hch]

/-- A line has the level of the last change that drives it. -/
theorem State.level_driveAll_of_last {line : Line} (level : Level) (before : List PinChange) {later : List PinChange}
    (h : ∀ ch ∈ later, ch.line ≠ line) (s : State) :
    (s.driveAll (before ++ ⟨line, level⟩ :: later)).lines.level line = level := by
  rw [State.driveAll_append, State.driveAll_cons, State.level_driveAll_of_not_driven h, State.level_drive, if_pos rfl]

/-- A change of /NMI sets the latch where the line falls (60_exceptions.md R312). -/
theorem State.nmiPending_drive_nmi (s : State) {ch : PinChange} (h : ch.line = .nmi) :
    (s.drive ch).nmiPending = (s.nmiPending || (s.cfg.nmiPin && (s.lines.nmi == .high && ch.level == .low))) := by
  rw [← Bool.and_assoc]
  simp [State.drive, h]

/-- A change of another line leaves the latch. -/
theorem State.nmiPending_drive_other (s : State) {ch : PinChange} (h : ch.line ≠ .nmi) :
    (s.drive ch).nmiPending = s.nmiPending := by
  unfold State.drive
  cases hl : ch.line with
  | nmi => exact absurd hl h
  | irq | reset => rfl

/-- The level of /NMI that the next change starts from. -/
theorem State.nmi_drive (s : State) (ch : PinChange) :
    (s.drive ch).lines.nmi = if ch.line = .nmi then ch.level else s.lines.nmi :=
  State.level_drive s ch .nmi

/-- The latch after pin changes: as it was, or set by a falling edge among them (60_exceptions.md R312). -/
theorem State.nmiPending_driveAll (changes : List PinChange) (s : State) :
    (s.driveAll changes).nmiPending = (s.nmiPending || (s.cfg.nmiPin && nmiFalls s.lines.nmi changes)) := by
  induction changes generalizing s with
  | nil => simp [State.driveAll, nmiFalls]
  | cons ch rest ih =>
    rw [State.driveAll_cons, ih, State.cfg_drive, State.nmi_drive, nmiFalls]
    by_cases h : ch.line = .nmi
    · rw [if_pos h, if_pos h, State.nmiPending_drive_nmi s h, Bool.or_assoc, ← Bool.and_or_distrib_left]
    · rw [if_neg h, if_neg h, State.nmiPending_drive_other s h]

/-- The boundary makes the changes of the next entry, none where there is none. -/
theorem State.boundary_of_inputs {s : State} {now : List PinChange} {rest : List (List PinChange)}
    (h : s.inputs = now :: rest ∨ s.inputs = [] ∧ now = [] ∧ rest = []) :
    s.boundary =
      { s with
        lines := (s.driveAll now).lines
        nmiPending := (s.driveAll now).nmiPending
        inputs := rest
        tick := s.tick + 1
        bus := [] } := by
  have hentry : s.inputs.headD [] = now ∧ s.inputs.tail = rest := by
    rcases h with h | ⟨h, rfl, rfl⟩ <;> simp [h]
  obtain ⟨rfl, rfl⟩ := hentry
  exact State.boundary_eq s

/-- Settles O15, clause by clause. -/
theorem nmiLatchIsSetByFallingEdges : Obligations.NmiLatchIsSetByFallingEdges := by
  refine ⟨fun changes s => ⟨?_, ?_, s.nmiPending_driveAll changes, s.driveAll_eq changes⟩,
    fun _ _ _ h => State.boundary_of_inputs h⟩
  · exact fun _ h => State.level_driveAll_of_not_driven h s
  · rintro line level before later rfl h
    exact State.level_driveAll_of_last level before h s

end Sys2Proof.Machine
end

section
/-! PROOF. The stack and the status byte: a pull after a push, the flags in the byte that is pushed (O31, O32). -/

namespace Sys2Proof.Machine

/-- S wraps within its byte when it is lowered (10_state.md R27). -/
theorem byte_sub_one_toNat (v : Byte) : (v - 1).toNat = (v.toNat + 255) % 256 := by
  rw [BitVec.toNat_sub, Nat.add_comm]
  rfl

/-- S wraps within its byte when it is raised (10_state.md R28). -/
theorem byte_add_one_toNat (v : Byte) : (v + 1).toNat = (v.toNat + 1) % 256 := BitVec.toNat_add v 1

theorem State.sp_afterPull_push (s : State) (v : Byte) : (s.push v).afterPull.sp = s.sp := sub_add_cancel s.sp 1

/-- A push onto RAM leaves its byte at the location it used. -/
theorem State.read_push_same {s : State} (hw : s.mem.wf) (hr : kindAt s.cfg (stackAddr s.sp) = .ram) (v : Byte)
    (k : AccessKind) : (s.push v).read k (stackAddr s.sp) = v := by
  rw [State.read_push, State.read_write_ram hw hr]

/-- A pull after a push reads the location the push used. -/
theorem State.pulled_push (s : State) (v : Byte) : (s.push v).pulled = (s.push v).read .stack (stackAddr s.sp) := by
  rw [State.pulled, State.push_sp, sub_add_cancel]

/-- Settles O31: S wraps within its byte, and what is pulled after a push is the byte that the push wrote. -/
theorem pullUndoesPush : Obligations.PullUndoesPush := by
  intro s v
  refine ⟨stackAddr_toNat s.sp, byte_sub_one_toNat s.sp, rfl, State.sameBytes_write s (stackAddr s.sp) v,
    byte_add_one_toNat s.sp, rfl, s.sp_afterPull_push v, fun hw hr => ?_⟩
  have hread := State.read_push_same hw hr v .stack
  exact ⟨hread, (s.pulled_push v).trans hread⟩

theorem getLsbD_bitAt (b : Bool) {j k : Nat} (hk : k < 8) : (bitAt b k).getLsbD j = (b && decide (j = k)) := by
  cases b with
  | false => simp [bitAt]
  | true =>
    have htwo : bitAt true k = BitVec.twoPow 8 k := rfl
    simp [htwo, BitVec.getLsbD_twoPow, hk, eq_comm]

/-- The pushed status byte bit by bit (10_state.md R38). -/
theorem Flags.getLsbD_pByte (f : Flags) (b : Bool) :
    (f.pByte b).getLsbD 7 = f.n ∧ (f.pByte b).getLsbD 6 = f.v ∧ (f.pByte b).getLsbD 5 = true ∧
    (f.pByte b).getLsbD 4 = b ∧ (f.pByte b).getLsbD 3 = f.d ∧ (f.pByte b).getLsbD 2 = f.i ∧
    (f.pByte b).getLsbD 1 = f.z ∧ (f.pByte b).getLsbD 0 = f.c := by
  simp only [Flags.pByte, BitVec.getLsbD_or, getLsbD_bitAt, Nat.reduceLT]
  simp

/-- Loading the pushed status byte gives the flags back, whatever B it was pushed with (10_state.md R38, R39). -/
theorem Flags.ofByte_pByte (f : Flags) (b : Bool) : Flags.ofByte (f.pByte b) = f := by
  obtain ⟨hn, hv, -, -, hd, hi, hz, hc⟩ := f.getLsbD_pByte b
  exact Flags.ext hn hv hd hi hz hc

/-- Settles O32, from the bits of the pushed byte; that bits 5 and 4 are ignored is the definition of `ofByte`. -/
theorem pushedStatusByteHoldsTheFlags : Obligations.PushedStatusByteHoldsTheFlags :=
  fun f b => ⟨f.getLsbD_pByte b, fun _ => ⟨rfl, f.ofByte_pByte b⟩⟩

end Sys2Proof.Machine
end

section
/-! PROOF. The reset state: its memory and what it holds (O10, O11). -/

namespace Sys2Proof.Machine

/-- After reset every address is RAM that nothing has written (logs 9 and 10). -/
theorem reset_read (k : AccessKind) (a : Word) : State.reset.read k a = Memory.unlisted := by
  have hram : kindAt State.reset.cfg a = .ram := kindAt_part6502 a
  rw [State.read, hram]
  rfl

/-- Settles O10: no location is listed. -/
theorem resetStateSatisfiesTheInvariant : Obligations.ResetStateSatisfiesTheInvariant :=
  ⟨reset_mem_wf, fun _ hcell => absurd hcell List.not_mem_nil⟩

/-- Settles O11: both bytes of the vector read as 00h, and PC is 0000h. -/
theorem resetStateHasTheValuesTheSpecGives : Obligations.ResetStateHasTheValuesTheSpecGives := by
  refine ⟨?_, rfl, rfl, rfl⟩
  rw [State.readWord, reset_read, reset_read]
  rfl

end Sys2Proof.Machine
end

section
/-! PROOF. What every instruction stores, and at which addresses: the bytes that stay, and the invariant after every
step (O9, O26). -/

namespace Sys2Proof.Machine

/-! ## Memory after a list of stores -/

/-- The memories that storing one byte at each of the addresses, in order, can make of the memory of `s`. -/
inductive Stored (s : State) : List Word → Memory → Prop where
  | nothing : Stored s [] s.mem
  | byte {addrs : List Word} {m : Memory} (h : Stored s addrs m) (a : Word) (v : Byte) :
      Stored s (addrs ++ [a]) ({ s with mem := m }.memAfterWrite a v)

theorem Stored.of_write (s : State) (a : Word) (v : Byte) : Stored s [a] (s.memAfterWrite a v) := .byte .nothing a v

theorem Stored.of_pushWord (s : State) (w : Word) :
    Stored s [stackAddr s.sp, stackAddr (s.sp - 1)] (s.pushWord w).mem :=
  .byte (.of_write s (stackAddr s.sp) (hiByte w)) (stackAddr (s.sp - 1)) (loByte w)

theorem Stored.of_interrupt (s : State) (vector : Word) (b : Bool) (ret : Word) :
    Stored s [stackAddr s.sp, stackAddr (s.sp - 1), stackAddr (s.sp - 1 - 1)] (s.interrupt vector b ret).mem :=
  .byte (.of_pushWord s ret) (stackAddr (s.sp - 1 - 1)) (s.p.pByte b)

/-- Stores change no byte but those at their addresses (20_memory.md R70). -/
theorem Stored.sameBytes_mem {s : State} {addrs : List Word} {m : Memory} (h : Stored s addrs m) :
    SameBytesBut addrs s { s with mem := m } := by
  induction h with
  | nothing => exact sameBytes_of_mem rfl rfl rfl
  | byte _ a v ih =>
    intro k b hb
    rw [← sameBytes_then_write ih rfl a v k b hb]
    exact State.read_congr rfl rfl rfl k b

theorem Stored.sameBytes {s t : State} {addrs : List Word} (h : Stored s addrs t.mem) (hst : SameSurroundings s t) :
    SameBytesBut addrs s t := by
  obtain ⟨-, -, -, htick, hcfg⟩ := hst
  intro k b hb
  rw [← h.sameBytes_mem k b hb]
  exact State.read_congr (s := { s with mem := t.mem }) (t := t) rfl htick hcfg k b

/-- Stores keep memory in canonical form and inside the part's address space. -/
theorem Stored.inv_mem {s : State} {addrs : List Word} {m : Memory} (h : Stored s addrs m) (hs : s.Inv) :
    { s with mem := m }.Inv := by
  induction h with
  | nothing => exact hs
  | byte _ a v ih => exact State.Inv_memAfterWrite ih a v

theorem Stored.inv {s t : State} {addrs : List Word} (h : Stored s addrs t.mem) (hst : SameSurroundings s t)
    (hs : s.Inv) : t.Inv := by
  obtain ⟨-, -, -, -, hcfg⟩ := hst
  exact State.Inv_congr (s := { s with mem := t.mem }) rfl hcfg (h.inv_mem hs)

/-! ## The addresses, by the row of the opcode listing -/

/-- The addresses at which an instruction of the row stores from `s`, in order (20_memory.md R68, R74). -/
def Row.storesAt (r : Row) (s : State) : List Word :=
  match r.mnemonic with
  | .STA | .STX | .STY | .SAX | .INC | .DEC | .ASL | .LSR | .ROL | .ROR | .SLO | .RLA | .SRE | .RRA | .DCP | .ISC =>
    r.form.toList.map (·.ea s)
  | .AHX | .SHY | .SHX | .TAS => r.form.toList.map (unstableTarget · s)
  | .PHA | .PHP => [stackAddr s.sp]
  | .JSR => [stackAddr s.sp, stackAddr (s.sp - 1)]
  | .BRK => [stackAddr s.sp, stackAddr (s.sp - 1), stackAddr (s.sp - 1 - 1)]
  | _ => []

section
variable {r : Row} {s : State}

theorem Row.storesAt_of_not_writer
    (h : r.mnemonic ∉ [.STA, .STX, .STY, .SAX, .AHX, .SHY, .SHX, .TAS, .INC, .DEC, .ASL, .LSR, .ROL, .ROR, .SLO, .RLA,
      .SRE, .RRA, .DCP, .ISC, .PHA, .PHP, .JSR, .BRK]) : r.storesAt s = [] := by
  obtain ⟨m, len, form, flags⟩ := r
  cases m with
  | STA | STX | STY | SAX | AHX | SHY | SHX | TAS | INC | DEC | ASL | LSR | ROL | ROR | SLO | RLA | SRE | RRA | DCP
  | ISC | PHA | PHP | JSR | BRK => simp at h
  | _ => rfl

theorem Row.storesAt_of_shiftAcc (h : r.mnemonic ∈ [.ASL, .LSR, .ROL, .ROR]) (hf : r.form = none) :
    r.storesAt s = [] := by
  obtain ⟨m, len, form, flags⟩ := r
  subst hf
  fin_cases h <;> rfl

theorem Row.storesAt_of_store {f : AddrForm} (hf : r.form = some f)
    (h : r.mnemonic ∈ [.STA, .STX, .STY, .SAX, .INC, .DEC, .ASL, .LSR, .ROL, .ROR, .SLO, .RLA, .SRE, .RRA, .DCP,
      .ISC]) : r.storesAt s = [f.ea s] := by
  obtain ⟨m, len, form, flags⟩ := r
  subst hf
  fin_cases h <;> rfl

theorem Row.storesAt_of_unstable {f : AddrForm} (hf : r.form = some f)
    (h : r.mnemonic ∈ [.AHX, .SHY, .SHX, .TAS]) : r.storesAt s = [unstableTarget f s] := by
  obtain ⟨m, len, form, flags⟩ := r
  subst hf
  fin_cases h <;> rfl

theorem Row.storesAt_of_push (h : r.mnemonic ∈ [.PHA, .PHP]) : r.storesAt s = [stackAddr s.sp] := by
  obtain ⟨m, len, form, flags⟩ := r
  fin_cases h <;> rfl

end

/-! ## Every instruction -/

theorem State.adc_mem (s : State) (m : Byte) : (s.adc m).mem = s.mem := by rw [State.adc_frame]

theorem State.sbc_mem (s : State) (m : Byte) : (s.sbc m).mem = s.mem := by rw [State.sbc_frame]

theorem State.arr_mem (s : State) (m : Byte) : (s.arr m).mem = s.mem := by rw [State.arr_frame]

theorem State.move_mem (s : State) (r : Reg) (v : Byte) : (s.move r v).mem = s.mem := by simp [State.move]

theorem branch_mem (taken : Bool) (dd : Byte) (s : State) : (branch taken dd s).mem = s.mem := by rw [branch_eq]

/-- Reading an operand stores nothing, so what is done with its value decides. -/
theorem Stored.of_withOperand {g : State → Byte → State} (hg : ∀ t m, (g t m).mem = t.mem) (o : Operand) (s : State) :
    Stored s [] (withOperand g o s).mem := by
  rw [withOperand_eq, State.advance_mem, hg, State.log_mem]
  exact .nothing

/-- The shift stores at the effective address; the step on A after it stores nothing. -/
theorem Stored.of_shiftThen (op : Byte → Bool → Shifted) {g : State → Byte → State}
    (hg : ∀ t m, (g t m).mem = t.mem) (f : AddrForm) (s : State) : Stored s [f.ea s] (shiftThen op g f s).mem := by
  rw [shiftThen_eq, State.advance_mem, hg]
  exact .of_write s (f.ea s) _

/-- So with an increment or decrement before the step on A. -/
theorem Stored.of_stepThen (h : Byte → Byte) {g : State → Byte → State} (hg : ∀ t m, (g t m).mem = t.mem)
    (f : AddrForm) (s : State) : Stored s [f.ea s] (stepThen h g f s).mem := by
  rw [stepThen_eq, State.advance_mem, hg]
  exact .of_write s (f.ea s) _

/-- The new value of S that TAS writes first does not move its target (44_illegal_opcodes.md R266). -/
theorem unstableTarget_set_sp (f : AddrForm) (s : State) (v : Byte) :
    unstableTarget f (s.set .sp v) = unstableTarget f s := by
  cases f <;> rfl

/-- Every instruction stores at the addresses of its row, and nowhere else. -/
theorem Performed.stored {s t : State} {r : Row} (h : Performed s (.next t) r) : Stored s (r.storesAt s) t.mem := by
  cases h with
  | sta f | stx f | sty f | sax f | inc f | dec f | asl f | lsr f | rol f | ror f => exact .of_write s (f.ea s) _
  | slo f | rla f | sre f => exact .of_shiftThen _ (fun t _ => t.move_mem .a _) f s
  | rra f => exact .of_shiftThen rcr State.adc_mem f s
  | dcp f => exact .of_stepThen decr (fun _ _ => rfl) f s
  | isc f => exact .of_stepThen incr State.sbc_mem f s
  | ahx f | shy f | shx f => exact .of_write s (unstableTarget f s) _
  | tas f =>
    rw [unstableStore_eq, unstableTarget_set_sp]
    exact .of_write s (unstableTarget f s) _
  | pha | php => exact .of_write s (stackAddr s.sp) _
  | jsr => exact .of_pushWord s (s.pc + 2)
  | brk => exact .of_interrupt s irqVector true (s.pc + 2)
  | adc o => exact .of_withOperand State.adc_mem o s
  | sbc o => exact .of_withOperand State.sbc_mem o s
  | arr nn => exact .of_withOperand State.arr_mem (.imm nn) s
  | and o | eor o | ora o => exact .of_withOperand (fun t _ => t.move_mem .a _) o s
  | bpl | bmi | bvc | bvs | bcc | bcs | bne | beq =>
    rw [branch_mem]
    exact .nothing
  | plp | rts | rti =>
    simp only [State.advance_mem, State.noteOldI_mem, State.setP_mem, State.jump_mem, State.afterPull_mem,
      State.returnFromInterrupt_mem]
    exact .nothing
  | _ => exact .nothing

theorem exec_stored {i : Instr} {s t : State} (h : exec i s = .next t) :
    Stored s ((rowOf s.cfg i).storesAt s) t.mem := (performed_of_exec h).stored

theorem exec_sameBytes {i : Instr} {s t : State} (h : exec i s = .next t) :
    SameBytesBut ((rowOf s.cfg i).storesAt s) s t := (exec_stored h).sameBytes (exec_sameSurroundings h)

theorem exec_inv {i : Instr} {s t : State} (h : exec i s = .next t) (hs : s.Inv) : t.Inv :=
  (exec_stored h).inv (exec_sameSurroundings h) hs

/-- Settles O9: a halted CPU and RESET store nothing, NMI and IRQ push three bytes, an instruction stores at the
addresses of its row. -/
theorem everyStepKeepsTheInvariant : Obligations.EveryStepKeepsTheInvariant := by
  intro s t hs h
  have hb : s.boundary.begun.Inv := State.Inv_boundary hs
  rcases step_cases h with ⟨-, rfl⟩ | ⟨-, -, rfl⟩ | ⟨-, rfl⟩ | ⟨-, rfl⟩ | ⟨-, hexec⟩
  · exact State.Inv_congr (State.resetSequence_mem _) (State.resetSequence_cfg _) hb
  · exact hb
  · exact State.Inv_interrupt (s := { s.boundary.begun with nmiPending := false }) hb _ _ _
  · exact State.Inv_interrupt hb _ _ _
  · exact exec_inv hexec hb

/-- Settles O26: the addresses of the row, clause by clause. -/
theorem instructionsStoreOnlyWhereTheySay : Obligations.InstructionsStoreOnlyWhereTheySay := by
  intro i s t h
  have hsame := exec_sameBytes h
  refine ⟨fun hm => ?_, fun hm hf => ?_, fun f hf hm => ?_, fun f hf hm hc => ?_, fun hm => ?_, fun hm => ?_,
    fun hm => ?_⟩
  · rwa [Row.storesAt_of_not_writer hm] at hsame
  · rwa [Row.storesAt_of_shiftAcc hm hf] at hsame
  · rwa [Row.storesAt_of_store hf hm] at hsame
  · rwa [Row.storesAt_of_unstable hf hm, unstableTarget_of_same_page hc] at hsame
  · rwa [Row.storesAt_of_push hm] at hsame
  · simpa [Row.storesAt, rowOf, hm] using hsame
  · simpa [Row.storesAt, rowOf, hm, sub_sub] using hsame

end Sys2Proof.Machine
end

section
/-! PROOF. Effective addresses of the two indirect forms as numbers (O28). -/

namespace Sys2Proof.Machine

/-- The two bytes of a pointer, named by number, are the addresses that `pointerAt` reads; the second wraps within page 0
(30_encoding.md R103). -/
theorem pointer_addresses {b : Byte} {p q : Word} (hp : p.toNat = b.toNat) (hq : q.toNat = (b.toNat + 1) % 256) :
    p = zext16 b ∧ q = zext16 (b + 1) :=
  ⟨BitVec.eq_of_toNat_eq (by rw [hp, zext16_toNat]), BitVec.eq_of_toNat_eq (by rw [hq, zext16_toNat, byte_add_one_toNat])⟩

theorem State.pointerAt_toNat (s : State) (b : Byte) :
    (s.pointerAt b).toNat = (s.read .pointer (zext16 b)).toNat + 256 * (s.read .pointer (zext16 (b + 1))).toNat :=
  wordOf_toNat _ _

/-- Settles O28: the pointer of `(nn,X)` stands at `nn + X`, that of `(nn),Y` at `nn`; only the latter has an index added
to the word it points to. -/
theorem effectiveAddressesOfIndirectForms : Obligations.EffectiveAddressesOfIndirectForms := by
  intro s nn p q p' q' hp hq hp' hq'
  have hsum : (nn + s.x).toNat = (nn.toNat + s.x.toNat) % 256 := BitVec.toNat_add nn s.x
  obtain ⟨rfl, rfl⟩ : p = zext16 (nn + s.x) ∧ q = zext16 (nn + s.x + 1) :=
    pointer_addresses (by rw [hp, hsum]) (by rw [hq, hsum, Nat.mod_add_mod])
  obtain ⟨rfl, rfl⟩ : p' = zext16 nn ∧ q' = zext16 (nn + 1) := pointer_addresses hp' hq'
  refine ⟨s.pointerAt_toNat (nn + s.x), rfl, ?_, rfl, rfl, rfl⟩
  rw [← s.pointerAt_toNat nn]
  exact add_zext16_toNat (s.pointerAt nn) s.y

end Sys2Proof.Machine
end

section
/-! PROOF. What stands at an address, and that a read gives the latest byte written to its location (O30). -/

namespace Sys2Proof

/-- A region of the map holds a location (20_memory.md R66). -/
abbrev Region.Holds (r : Region) (loc : Nat) : Prop := r.base ≤ loc ∧ loc < r.base + r.size

end Sys2Proof

namespace Sys2Proof.Machine

/-! ## The memory map -/

theorem kindIn_of_not_held {map : List Region} {loc : Nat} (h : ∀ r ∈ map, ¬ r.Holds loc) :
    kindIn map loc = .device := by
  induction map with
  | nil => rfl
  | cons r rest ih =>
    obtain ⟨hr, hrest⟩ := List.forall_mem_cons.1 h
    rw [kindIn, if_neg hr, ih hrest]

/-- The first region that holds a location decides. -/
theorem kindIn_of_first {before : List Region} {r : Region} {loc : Nat} (hbefore : ∀ q ∈ before, ¬ q.Holds loc)
    (hr : r.Holds loc) (later : List Region) : kindIn (before ++ r :: later) loc = r.kind := by
  induction before with
  | nil => exact if_pos hr
  | cons q rest ih =>
    obtain ⟨hq, hrest⟩ := List.forall_mem_cons.1 hbefore
    rw [List.cons_append, kindIn, if_neg hq, ih hrest]

/-- The two addresses of the on-chip port (20_memory.md R66). -/
theorem portAddress_eq (a : Word) : (a == 0x0000 || a == 0x0001) = decide (a.toNat < 2) := by
  rw [Bool.eq_iff_iff]
  simp only [Bool.or_eq_true, beq_iff_eq, decide_eq_true_eq, BitVec.toNat_eq, BitVec.ofNat_eq_ofNat,
    BitVec.toNat_ofNat]
  omega

theorem kindAt_of_port {cfg : Config} {a : Word} (hp : cfg.ioPort = true) (ha : a.toNat < 2) :
    kindAt cfg a = .device := by
  rw [kindAt, portAddress_eq, if_pos]
  simp [hp, ha]

theorem kindAt_of_map {cfg : Config} {a : Word} (h : cfg.ioPort = false ∨ 2 ≤ a.toNat) :
    kindAt cfg a = kindIn cfg.memMap (cellOf cfg a) := by
  rw [kindAt, portAddress_eq, if_neg]
  rcases h with hp | ha
  · simp [hp]
  · simp [Nat.not_lt.2 ha]

/-- The location of an address on the address lines of the part (20_memory.md R60, R67). -/
theorem cellOf_sixteen {cfg : Config} (h : cfg.addrLines = .sixteen) (a : Word) : cellOf cfg a = a.toNat := by
  rw [cellOf, h]
  exact Nat.mod_eq_of_lt a.isLt

theorem cellOf_thirteen {cfg : Config} (h : cfg.addrLines = .thirteen) (a : Word) : cellOf cfg a = a.toNat % 8192 := by
  rw [cellOf, h]
  rfl

/-! ## A read after a write -/

theorem State.read_of_not_device {s : State} {b : Word} (h : kindAt s.cfg b ≠ .device) (k : AccessKind) :
    s.read k b = s.mem.read (cellOf s.cfg b) := by
  unfold State.read
  cases hk : kindAt s.cfg b with
  | device => exact absurd hk h
  | ram | rom => rfl

theorem State.memAfterWrite_of_ram {s : State} {a : Word} (h : kindAt s.cfg a = .ram) (v : Byte) :
    s.memAfterWrite a v = s.mem.write (cellOf s.cfg a) v := by
  rw [State.memAfterWrite, h]

theorem State.memAfterWrite_of_not_ram {s : State} {a : Word} (h : kindAt s.cfg a ≠ .ram) (v : Byte) :
    s.memAfterWrite a v = s.mem := by
  unfold State.memAfterWrite
  cases hk : kindAt s.cfg a with
  | ram => exact absurd hk h
  | rom | device => rfl

/-- A byte written to RAM is read at every address of its location that is no device, through a ROM window too. -/
theorem State.read_write_same_location {s : State} (hw : s.mem.wf) {a b : Word} (ha : kindAt s.cfg a = .ram)
    (hb : kindAt s.cfg b ≠ .device) (hl : cellOf s.cfg a = cellOf s.cfg b) (v : Byte) (k : AccessKind) :
    (s.write a v).read k b = v := by
  rw [State.read_of_not_device (s := s.write a v) hb, State.write_mem, State.write_cfg, State.memAfterWrite_of_ram ha,
    hl, Memory.read_write_same hw]

/-- A write to ROM or to a device changes no byte (logs 11 and 12). -/
theorem State.read_write_not_ram {s : State} {a : Word} (h : kindAt s.cfg a ≠ .ram) (v : Byte) (k : AccessKind)
    (b : Word) : (s.write a v).read k b = s.read k b :=
  State.read_congr (s := s) (t := s.write a v) (State.memAfterWrite_of_not_ram h v) rfl rfl k b

/-- Settles O30: the location and what stands there, then reads and writes by location. -/
theorem readsSeeTheLatestWrite : Obligations.ReadsSeeTheLatestWrite := by
  refine ⟨fun cfg a => ⟨fun h => cellOf_sixteen h a, fun h => cellOf_thirteen h a, kindAt_of_port, fun hmap => ?_⟩,
    fun s a b v k => ⟨⟨rfl, rfl, rfl⟩, fun hl hk => ?_, fun hw => ⟨fun ha hb hl => ?_, ?_, fun ha => ?_⟩⟩⟩
  · rw [kindAt_of_map hmap]
    refine ⟨kindIn_of_not_held, fun before later r hcut hbefore hlo hhi => ?_⟩
    rw [hcut, kindIn_of_first hbefore ⟨hlo, hhi⟩ later]
  · exact ⟨State.read_of_same_location hl hk k, State.memAfterWrite_of_same_location hl hk v⟩
  · exact State.read_write_same_location hw ha hb hl v k
  · exact State.read_write_other s a v k
  · exact State.read_write_not_ram ha v k b

end Sys2Proof.Machine
end

section
/-! PROOF. JSR and RTS: a word pushed and a word pulled (O49). -/

namespace Sys2Proof.Machine

/-- A word pushed changes memory and S and makes two writes, high byte first (20_memory.md R74). -/
theorem State.pushWord_eq (s : State) (w : Word) :
    s.pushWord w =
      { s with
        mem := (s.pushWord w).mem
        sp := s.sp - 2
        bus := s.bus ++ [s.wrOf (stackAddr s.sp) (hiByte w), s.wrOf (stackAddr (s.sp - 1)) (loByte w)] } := by
  have hsp : (s.pushWord w).sp = s.sp - 2 := by rw [State.pushWord_sp, sub_sub]; rfl
  rw [← hsp, ← State.pushWord_bus]
  rfl

theorem State.sameBytes_pushWord (s : State) (w : Word) :
    SameBytesBut [stackAddr s.sp, stackAddr (s.sp - 1)] s (s.pushWord w) :=
  sameBytes_then_write (s.sameBytes_write (stackAddr s.sp) (hiByte w)) rfl (stackAddr (s.sp - 1)) (loByte w)

/-- The two bytes of a word pushed onto RAM, the low byte at the lower address. -/
theorem State.read_pushWord {s : State} (hw : s.mem.wf) (hs : StackIsRam s) (w : Word) (k : AccessKind) :
    (s.pushWord w).read k (stackAddr s.sp) = hiByte w ∧ (s.pushWord w).read k (stackAddr (s.sp - 1)) = loByte w := by
  have hne : s.sp - 1 ≠ s.sp := by simp
  have hw' : (s.push (hiByte w)).mem.wf := State.memAfterWrite_wf hw _ _
  constructor
  · rw [State.pushWord, State.read_push, State.push_sp, State.read_write_other _ _ _ _ (cellOf_stackAddr_ne _ hne)]
    exact State.read_push_same hw (hs _) (hiByte w) k
  · exact State.read_push_same (s := s.push (hiByte w)) hw' (hs _) (loByte w) k

/-- Two pulls raise S by two and make two reads. -/
theorem State.afterPull_afterPull (s : State) :
    s.afterPull.afterPull =
      { s with
        sp := s.sp + 2
        bus := s.bus ++ [s.rdOf .stack (stackAddr (s.sp + 1)), s.rdOf .stack (stackAddr (s.sp + 2))] } := by
  have hsp : s.sp + 1 + 1 = s.sp + 2 := add_assoc s.sp 1 1
  have hbus : s.afterPull.afterPull.bus =
      s.bus ++ [s.rdOf .stack (stackAddr (s.sp + 1)), s.rdOf .stack (stackAddr (s.sp + 2))] := by
    rw [← hsp]
    exact List.append_assoc _ _ _
  rw [← hbus, ← hsp]
  rfl

theorem State.pulledWord_eq (s : State) :
    s.pulledWord = wordOf (s.read .stack (stackAddr (s.sp + 1))) (s.read .stack (stackAddr (s.sp + 2))) := by
  have hsp : s.sp + 1 + 1 = s.sp + 2 := add_assoc s.sp 1 1
  rw [← hsp]
  rfl

theorem exec_jsr (nnnn : Word) (s : State) : exec (.jsr nnnn) s = .next ((s.pushWord (s.pc + 2)).jump nnnn) := rfl

theorem exec_rts (s : State) : exec .rts s = .next (s.afterPull.afterPull.jump (s.pulledWord + 1)) := rfl

/-- Settles O49: JSR is a word pushed and a jump, RTS a word pulled and a jump past it. -/
theorem jsrAndRtsUseTheStack : Obligations.JsrAndRtsUseTheStack := by
  intro s nnnn
  refine ⟨⟨(s.pushWord (s.pc + 2)).jump nnnn, exec_jsr nnnn s, ?_, fun k b hb => ?_, fun hw hs k => ?_⟩, ?_⟩
  · exact congrArg (State.jump · nnnn) (s.pushWord_eq (s.pc + 2))
  · rw [State.read_jump]
    exact s.sameBytes_pushWord (s.pc + 2) k b hb
  · simp only [State.read_jump]
    exact State.read_pushWord hw hs (s.pc + 2) k
  · rw [exec_rts, State.afterPull_afterPull, State.pulledWord_eq]
    rfl

end Sys2Proof.Machine
end

section
/-! PROOF. The decoder and the encoder agree (O1 to O4). The reason is the layout that each opcode byte fixes
(30_encoding.md R91): no operand, one operand byte, or the two bytes of a word. -/

namespace Sys2Proof

/-- The opcode byte `op` stands for the instruction, whose bytes have one of the three layouts of 30_encoding.md R91:
the encoder writes that layout and the decoder reads it, whatever the operand. -/
inductive Layout (op : Byte) : Instr → Prop where
  | implied (i : Instr) (hlength : i.length = 1) (hencode : encode i = [op])
      (hdecode : ∀ b1 b2, decodeBytes op b1 b2 = i) : Layout op i
  | byte (mk : Byte → Instr) (hlength : ∀ nn, (mk nn).length = 2) (hencode : ∀ nn, encode (mk nn) = [op, nn])
      (hdecode : ∀ b1 b2, decodeBytes op b1 b2 = mk b1) (nn : Byte) : Layout op (mk nn)
  | word (mk : Word → Instr) (hlength : ∀ nnnn, (mk nnnn).length = 3)
      (hencode : ∀ nnnn, encode (mk nnnn) = [op, loByte nnnn, hiByte nnnn])
      (hdecode : ∀ b1 b2, decodeBytes op b1 b2 = mk (wordOf b1 b2)) (nnnn : Word) : Layout op (mk nnnn)

/-- Every instruction has the layout of its operand form. -/
theorem exists_layout (i : Instr) : ∃ op, Layout op i := by
  cases i with
  | brk | kil02 | php | aslAcc | kil12 | clc | nop1A | kil22 | plp | rolAcc | kil32 | sec | nop3A | rti | kil42 | pha
  | lsrAcc | kil52 | cli | nop5A | rts | kil62 | pla | rorAcc | kil72 | sei | nop7A | dey | txa | kil92 | tya | txs
  | tay | tax | kilB2 | clv | tsx | iny | dex | kilD2 | cld | nopDA | inx | nop | kilF2 | sed | nopFA =>
    exact ⟨_, .implied _ rfl rfl fun _ _ => rfl⟩
  | nopAbs0C | oraAbs | aslAbs | sloAbs | oraAby | sloAby | nopAbx1C | oraAbx | aslAbx | sloAbx | jsr | bitAbs | andAbs
  | rolAbs | rlaAbs | andAby | rlaAby | nopAbx3C | andAbx | rolAbx | rlaAbx | jmpAbs | eorAbs | lsrAbs | sreAbs
  | eorAby | sreAby | nopAbx5C | eorAbx | lsrAbx | sreAbx | jmpInd | adcAbs | rorAbs | rraAbs | adcAby | rraAby
  | nopAbx7C | adcAbx | rorAbx | rraAbx | styAbs | staAbs | stxAbs | saxAbs | staAby | tas | shy | staAbx | shx | ahxAby
  | ldyAbs | ldaAbs | ldxAbs | laxAbs | ldaAby | las | ldyAbx | ldaAbx | ldxAby | laxAbx | cpyAbs | cmpAbs | decAbs
  | dcpAbs | cmpAby | dcpAby | nopAbxDC | cmpAbx | decAbx | dcpAbx | cpxAbs | sbcAbs | incAbs | iscAbs | sbcAby | iscAby
  | nopAbxFC | sbcAbx | incAbx | iscAbx =>
    exact ⟨_, .word _ (fun _ => rfl) (fun _ => rfl) (fun _ _ => rfl) _⟩
  | _ => exact ⟨_, .byte _ (fun _ => rfl) (fun _ => rfl) (fun _ _ => rfl) _⟩

/-- Every opcode byte is the first byte of the instruction it decodes to (30_encoding.md R108, R110). -/
theorem head_encode_decodeBytes : ∀ op : Byte, (encode (decodeBytes op 0 0)).head? = some op := by decide

section
variable {op : Byte} {i : Instr}

theorem Layout.length_bounds (h : Layout op i) : 1 ≤ i.length ∧ i.length ≤ 3 := by
  cases h with
  | implied _ hlength _ _ => omega
  | byte _ hlength _ _ nn => have := hlength nn; omega
  | word _ hlength _ _ nnnn => have := hlength nnnn; omega

theorem Layout.head_encode (h : Layout op i) : (encode i).head? = some op := by
  cases h with
  | implied _ _ hencode _ => simp [hencode]
  | byte _ _ hencode _ _ => simp [hencode]
  | word _ _ hencode _ _ => simp [hencode]

/-- The encoder gives back the bytes that the decoder has looked at. -/
theorem Layout.encode_decodeBytes (h : Layout op i) (b1 b2 : Byte) :
    encode (decodeBytes op b1 b2) = [op, b1, b2].take i.length := by
  cases h with
  | implied _ hlength hencode hdecode => simp [hdecode, hencode, hlength]
  | byte _ hlength hencode hdecode _ => simp [hdecode, hencode, hlength]
  | word _ hlength hencode hdecode _ => simp [hdecode, hencode, hlength]

/-- The operand bytes do not change the length (30_encoding.md R90). -/
theorem Layout.length_decodeBytes (h : Layout op i) (b1 b2 : Byte) : (decodeBytes op b1 b2).length = i.length := by
  cases h with
  | implied _ _ _ hdecode => rw [hdecode]
  | byte _ hlength _ hdecode _ => rw [hdecode, hlength, hlength]
  | word _ hlength _ hdecode _ => rw [hdecode, hlength, hlength]

/-- The decoder reads the bytes that the encoder wrote, and takes no more. -/
theorem Layout.decode_encode (h : Layout op i) (rest : List Byte) : decode (encode i ++ rest) = .ok (i, rest) := by
  cases h with
  | implied _ hlength hencode hdecode => simp [decode, hencode, hdecode, hlength]
  | byte _ hlength hencode hdecode _ => simp [decode, hencode, hdecode, hlength]
  | word _ hlength hencode hdecode _ => simp [decode, hencode, hdecode, hlength]

end

/-- Every opcode byte has a layout: that of the instruction it decodes to. -/
theorem exists_layout_of_opcode (op : Byte) : ∃ i, Layout op i := by
  obtain ⟨op', h⟩ := exists_layout (decodeBytes op 0 0)
  obtain rfl : op = op' := Option.some.inj ((head_encode_decodeBytes op).symm.trans h.head_encode)
  exact ⟨_, h⟩

theorem length_decodeBytes_bounds (op b1 b2 : Byte) :
    1 ≤ (decodeBytes op b1 b2).length ∧ (decodeBytes op b1 b2).length ≤ 3 := by
  obtain ⟨i, h⟩ := exists_layout_of_opcode op
  rw [h.length_decodeBytes]
  exact h.length_bounds

/-- The instruction that three bytes hold has the first so many of them as its encoding. -/
theorem encode_decodeBytes (op b1 b2 : Byte) :
    encode (decodeBytes op b1 b2) = [op, b1, b2].take (decodeBytes op b1 b2).length := by
  obtain ⟨i, h⟩ := exists_layout_of_opcode op
  rw [h.length_decodeBytes, h.encode_decodeBytes]

/-- Settles O1: the decoder runs on each word. -/
theorem sampleWordsDecodeAsTheMatrixSays : Obligations.SampleWordsDecodeAsTheMatrixSays :=
  ⟨rfl, rfl, rfl, rfl, rfl, rfl, rfl, rfl, rfl, rfl, rfl⟩

/-- Settles O2: in each layout the decoder reads what the encoder wrote. -/
theorem decodeOfEncodeIsTheInstruction : Obligations.DecodeOfEncodeIsTheInstruction := by
  intro i rest
  obtain ⟨op, h⟩ := exists_layout i
  exact h.decode_encode rest

/-- Settles O3, from the layout of the opcode byte. -/
theorem encodeOfDecodeIsTheBytes : Obligations.EncodeOfDecodeIsTheBytes := by
  intro op b1 b2
  refine ⟨encode_decodeBytes op b1 b2, fun c1 c2 => ?_⟩
  obtain ⟨i, h⟩ := exists_layout_of_opcode op
  rw [h.length_decodeBytes, h.length_decodeBytes]

/-! ## Lists of bytes -/

/-- The instruction at the front of a list: operand bytes that the list has not are 00h, and an instruction that needs
them is refused. -/
def frontInstr (op : Byte) (rest : List Byte) : Instr := decodeBytes op (rest.getD 0 0) (rest.getD 1 0)

theorem decode_of_length_le {op : Byte} {rest : List Byte} (h : (frontInstr op rest).length ≤ rest.length + 1) :
    decode (op :: rest) = .ok (frontInstr op rest, rest.drop ((frontInstr op rest).length - 1)) := if_pos h

theorem decode_of_lt_length {op : Byte} {rest : List Byte} (h : rest.length + 1 < (frontInstr op rest).length) :
    decode (op :: rest) = .error (.missingOperand op) := if_neg (Nat.not_le.2 h)

/-- The three bytes that the decoder looks at are the front of the list made long enough with 00h. -/
theorem lookedAt_eq_take (op : Byte) (rest : List Byte) :
    [op, rest.getD 0 0, rest.getD 1 0] = (op :: rest ++ [0, 0]).take 3 := by
  match rest with
  | [] => rfl
  | [_] => rfl
  | _ :: _ :: _ => rfl

/-- As far as the list goes, they are its own bytes. -/
theorem take_lookedAt (op : Byte) (rest : List Byte) {n : Nat} (h3 : n ≤ 3) (h : n ≤ rest.length + 1) :
    [op, rest.getD 0 0, rest.getD 1 0].take n = (op :: rest).take n := by
  rw [lookedAt_eq_take, List.take_take, Nat.min_eq_left h3, List.take_append_of_le_length h]

/-- Settles O4: a list long enough is the encoding of its front instruction and the bytes after it. -/
theorem decodeRefusesOnlyTruncatedLists : Obligations.DecodeRefusesOnlyTruncatedLists := by
  refine ⟨rfl, fun op rest => ⟨fun h => ⟨_, _, decode_of_length_le h, ?_⟩, decode_of_lt_length⟩⟩
  obtain ⟨h1, h3⟩ := length_decodeBytes_bounds op (rest.getD 0 0) (rest.getD 1 0)
  rw [frontInstr, encode_decodeBytes, take_lookedAt op rest h3 h, ← List.drop_cons h1, List.take_append_drop]

end Sys2Proof
end

section
/-! PROOF. Every instruction completes, but ROR on a part without it (O21). -/

namespace Sys2Proof.Machine

/-- The opcodes that a part may lack are those of the mnemonic ROR (42_rotate_shift.md R185). -/
theorem isRor_eq (i : Instr) : i.isRor = decide (mnemonicOf i = .ROR) := by
  cases i <;> rfl

/-- The outcomes of every row but ROR, and of ROR on a part that has it, are next states. -/
theorem Performed.completes {s : State} {o : Out} {r : Row} (h : Performed s o r)
    (hr : s.cfg.hasRor = true ∨ r.mnemonic ≠ .ROR) : Completes o := by
  cases h with
  | rorAbsent _ hm hno => simp [hm, hno] at hr
  | _ => exact ⟨_, rfl⟩

/-- ROR on a part without it is refused. -/
theorem Performed.refused {s : State} {o : Out} {r : Row} (h : Performed s o r) (hno : s.cfg.hasRor = false)
    (hm : r.mnemonic = .ROR) : o = .refused .rorAbsent := by
  cases h with
  | rorAbsent => rfl
  | rorAcc hhas => simp [hno] at hhas
  | ror _ hhas => simp [hno] at hhas
  | _ => simp at hm

/-- Settles O21: an instruction is ill-formed exactly where it is ROR and the part lacks it. -/
theorem everyInstructionCompletes : Obligations.EveryInstructionCompletes := by
  intro i s
  have hp := exec_performed i s
  refine ⟨fun hwf => hp.completes ?_, fun hwf => ?_⟩
  · simpa [rowOf, Instr.wellFormed, isRor_eq] using hwf
  · obtain ⟨hno, hror⟩ : s.cfg.hasRor = false ∧ mnemonicOf i = .ROR := by
      simpa [Instr.wellFormed, isRor_eq] using hwf
    exact hp.refused hno hror

end Sys2Proof.Machine
end

section
/-! PROOF. Where JMP and the branches go (O48, O51). -/

namespace Sys2Proof.Machine

theorem loByte_toNat (w : Word) : (loByte w).toNat = w.toNat % 256 := by simp [loByte]

theorem hiByte_toNat (w : Word) : (hiByte w).toNat = w.toNat / 256 := by
  have := w.isLt
  simp only [hiByte, BitVec.extractLsb'_toNat, Nat.shiftRight_eq_div_pow, Nat.reducePow]
  omega

theorem getLsbD_wordOf (lo hi : Byte) (i : Nat) :
    (wordOf lo hi).getLsbD i = if i < 8 then lo.getLsbD i else hi.getLsbD (i - 8) := BitVec.getLsbD_append

/-- The page of one word with the low byte of another (20_memory.md R61). -/
theorem page_or_low_eq (v w : Word) : (v &&& 0xFF00) ||| (w &&& 0x00FF) = wordOf (loByte w) (hiByte v) := by
  apply BitVec.eq_of_getLsbD_eq
  intro i hi
  rw [getLsbD_wordOf]
  interval_cases i <;> simp [loByte, hiByte]

/-- The pointer of JMP (nnnn) stays in its page (30_encoding.md R105). -/
theorem jumpHighAddr_toNat (nnnn : Word) :
    (jumpHighAddr nnnn).toNat = nnnn.toNat / 256 * 256 + (nnnn.toNat + 1) % 256 := by
  have hlow : (nnnn + 1).toNat % 256 = (nnnn.toNat + 1) % 256 := by
    rw [BitVec.toNat_add]
    exact Nat.mod_mod_of_dvd _ (by decide)
  rw [jumpHighAddr, page_or_low_eq, wordOf_toNat, loByte_toNat, hiByte_toNat, hlow, Nat.mul_comm, Nat.add_comm]

theorem exec_jmpInd (nnnn : Word) (s : State) :
    exec (.jmpInd nnnn) s = .next ((s.log (s.rdWordOf .pointer nnnn (jumpHighAddr nnnn))).jump
        (s.readWord .pointer nnnn (jumpHighAddr nnnn))) := rfl

/-- Settles O48: the address of the high byte, named by number, is the one that the model reads. -/
theorem jumpsLoadPc : Obligations.JumpsLoadPc := by
  intro s nnnn hi hhi
  obtain rfl : hi = jumpHighAddr nnnn := BitVec.eq_of_toNat_eq (hhi.trans (jumpHighAddr_toNat nnnn).symm)
  exact ⟨rfl, exec_jmpInd nnnn s⟩

theorem sext16_toInt (v : Byte) : (sext16 v).toInt = v.toInt := BitVec.toInt_signExtend_of_le (by decide)

/-- The target of a branch as a number: modulo 10000h, the displacement signed (30_encoding.md R106). -/
theorem State.branchTarget_toNat (s : State) (dd : Byte) :
    ((s.branchTarget dd).toNat : Int) = ((s.pc.toNat : Int) + 2 + dd.toInt) % 65536 := by
  have hdd : ((sext16 dd).toNat : Int) = dd.toInt % 65536 := by
    have := (sext16 dd).isLt
    rw [← sext16_toInt, BitVec.toInt_eq_toNat_cond]
    split <;> omega
  have htwo : (2 : Word).toNat = 2 := rfl
  rw [State.branchTarget, BitVec.toNat_add, BitVec.toNat_add, htwo]
  omega

/-- Settles O51: each row branches where its flag has the value beside it. -/
theorem branchesTestOneFlag : Obligations.BranchesTestOneFlag := by
  intro s dd f hf
  refine ⟨s.branchTarget dd, s.branchTarget_toNat dd, ?_⟩
  have hexec : exec f.1 s = .next (branch (f.2.1 == f.2.2) dd s) := by
    fin_cases hf <;> simp only [beq_false, beq_true] <;> rfl
  rw [hexec, branch_eq]
  simp only [beq_iff_eq]

end Sys2Proof.Machine
end

section
/-! PROOF. The step runs what stands at PC (O5), and what `withFetchWord` places there (O6). -/

namespace Sys2Proof.Machine

/-- Three bytes are always enough for the instruction at their front. -/
theorem decode_threeBytes (op b1 b2 : Byte) : ∃ rest, decode [op, b1, b2] = .ok (decodeBytes op b1 b2, rest) :=
  ⟨_, decode_of_length_le (rest := [b1, b2]) (length_decodeBytes_bounds op b1 b2).2⟩

theorem step_of_instruction {s : State} (h : s.boundary.choice = .instruction) :
    step s = exec s.boundary.fetched s.boundary.afterFetch := by
  simp only [step, h]

/-- The state in which the fetched instruction is performed: a boundary, then the reads of its bytes. -/
theorem State.afterFetch_boundary (s : State) :
    s.boundary.afterFetch =
      { s with
        lines := s.boundary.lines
        nmiPending := s.boundary.nmiPending
        inputs := s.inputs.tail
        lateI := none
        tick := s.tick + 1
        bus := s.boundary.fetchReads s.boundary.fetched.length } := by
  apply State.ext <;> simp [State.afterFetch]

/-- Settles O5: the decoder reads from the three bytes at PC the instruction that the step fetches. -/
theorem stepRunsTheDecodedInstruction : Obligations.StepRunsTheDecodedInstruction := by
  rintro s i rest op b1 b2 hchoice rfl rfl rfl hdecode
  obtain ⟨rest', hthree⟩ := decode_threeBytes (s.boundary.read .opcode s.pc) (s.boundary.read .operand (s.pc + 1))
    (s.boundary.read .operand (s.pc + 2))
  have hi : s.boundary.fetched = i := by
    obtain ⟨hi, -⟩ := Prod.mk.inj (Except.ok.inj (hthree.symm.trans hdecode))
    rw [State.fetched, State.boundary_pc, hi]
  refine ⟨?_, ?_⟩
  · rw [step_of_instruction hchoice, hi]
  · rw [State.afterFetch_boundary, hi, State.fetchReads]
    simp only [State.rdOf, State.boundary_cfg, State.boundary_pc]

/-! ## Placing a byte -/

/-- Memory, not a device, stands at the address and holds the byte. -/
def State.Holds (s : State) (a : Word) (v : Byte) : Prop :=
  kindAt s.cfg a ≠ .device ∧ s.mem.read (cellOf s.cfg a) = v

theorem State.Holds.read {s : State} {a : Word} {v : Byte} (h : s.Holds a v) (k : AccessKind) : s.read k a = v := by
  obtain ⟨hkind, hmem⟩ := h
  rw [State.read_of_not_device hkind, hmem]

/-- Memory stands only where the map says so: the port is a device. -/
theorem kindAt_eq_kindIn {cfg : Config} {b : Word} (h : kindAt cfg b ≠ .device) :
    kindAt cfg b = kindIn cfg.memMap (cellOf cfg b) := by
  apply kindAt_of_map
  by_contra hport
  obtain ⟨hp, hb⟩ := not_or.1 hport
  exact h (kindAt_of_port (Bool.eq_true_of_not_eq_false hp) (Nat.not_le.1 hb))

theorem State.makePlain_of_not_device {s : State} {a : Word} (h : kindAt s.cfg a ≠ .device) : s.makePlain a = s := by
  unfold State.makePlain
  split
  · rfl
  · rfl
  · next hd => exact absurd hd h

theorem State.makePlain_of_device {s : State} {a : Word} (h : kindAt s.cfg a = .device) :
    s.makePlain a =
      { s with cfg := { s.cfg with ioPort := false, memMap := ⟨cellOf s.cfg a, 1, .ram⟩ :: s.cfg.memMap } } := by
  rw [State.makePlain, h]

/-- Making an address plain changes the parameters alone. -/
theorem State.makePlain_eq (s : State) (a : Word) : s.makePlain a = { s with cfg := (s.makePlain a).cfg } := by
  unfold State.makePlain
  split <;> rfl

/-- It leaves the address lines, and so every location. -/
theorem State.cellOf_makePlain (s : State) (a b : Word) : cellOf (s.makePlain a).cfg b = cellOf s.cfg b := by
  unfold State.makePlain
  split <;> rfl

theorem State.kindAt_makePlain_same (s : State) (a : Word) : kindAt (s.makePlain a).cfg a ≠ .device := by
  by_cases h : kindAt s.cfg a = .device
  · rw [State.makePlain_of_device h, kindAt_of_map (.inl rfl)]
    simp [kindIn, cellOf]
  · rwa [State.makePlain_of_not_device h]

/-- Where memory stood, memory still stands. -/
theorem State.kindAt_makePlain_of_not_device {s : State} {b : Word} (hb : kindAt s.cfg b ≠ .device) (a : Word) :
    kindAt (s.makePlain a).cfg b ≠ .device := by
  by_cases h : kindAt s.cfg a = .device
  · rw [State.makePlain_of_device h, kindAt_of_map (.inl rfl), kindIn]
    split
    · simp
    · exact kindAt_eq_kindIn hb ▸ hb
  · rwa [State.makePlain_of_not_device h]

/-- Placing a byte changes memory at its location, and the parameters where a device stood. -/
theorem State.place_eq (s : State) (a : Word) (v : Byte) :
    s.place a v = { s with mem := s.mem.write (cellOf s.cfg a) v, cfg := (s.makePlain a).cfg } := by
  rw [State.place, State.cellOf_makePlain, State.makePlain_eq]

theorem State.place_wf {s : State} (h : s.mem.wf) (a : Word) (v : Byte) : (s.place a v).mem.wf := by
  rw [State.place_eq]
  exact Memory.wf_write h _ v

theorem State.holds_place {s : State} (h : s.mem.wf) (a : Word) (v : Byte) : (s.place a v).Holds a v := by
  rw [State.place_eq]
  refine ⟨s.kindAt_makePlain_same a, ?_⟩
  rw [State.cellOf_makePlain, Memory.read_write_same h]

/-- A byte placed at another location leaves the bytes that memory holds. -/
theorem State.Holds.place {s : State} {b : Word} {u : Byte} (h : s.Holds b u) {a : Word} (v : Byte)
    (hcell : cellOf s.cfg b ≠ cellOf s.cfg a) : (s.place a v).Holds b u := by
  obtain ⟨hkind, hmem⟩ := h
  rw [State.place_eq]
  refine ⟨State.kindAt_makePlain_of_not_device hkind a, ?_⟩
  rw [State.cellOf_makePlain, Memory.read_write_other _ _ hcell, hmem]

/-- An address and one a little further on are different locations, on every part. -/
theorem cellOf_ne_add (cfg : Config) (a : Word) {d : Word} (h0 : 0 < d.toNat) (h : d.toNat < 0x2000) :
    cellOf cfg a ≠ cellOf cfg (a + d) := by
  have ha := a.isLt
  rw [cellOf, cellOf, BitVec.toNat_add]
  cases cfg.addrLines <;> simp only [AddrLines.space] <;> omega

/-! ## Placing an instruction -/

/-- Byte `k` of the three that `withFetchWord` places: of the low `nbits` bits of `w`. -/
abbrev wordByte (nbits w k : Nat) : Byte := byteOfNat (w % 2 ^ nbits) k

theorem tableBytes_eq (nbits w : Nat) :
    tableBytes nbits w = [wordByte nbits w 0, wordByte nbits w 1, wordByte nbits w 2] := rfl

theorem State.holds_withFetchWord {s : State} (h : s.mem.wf) (nbits w : Nat) :
    (s.withFetchWord nbits w).Holds s.pc (wordByte nbits w 0) ∧
    (s.withFetchWord nbits w).Holds (s.pc + 1) (wordByte nbits w 1) ∧
    (s.withFetchWord nbits w).Holds (s.pc + 2) (wordByte nbits w 2) := by
  have h01 (cfg : Config) : cellOf cfg s.pc ≠ cellOf cfg (s.pc + 1) := cellOf_ne_add cfg s.pc (by decide) (by decide)
  have h02 (cfg : Config) : cellOf cfg s.pc ≠ cellOf cfg (s.pc + 2) := cellOf_ne_add cfg s.pc (by decide) (by decide)
  have h12 (cfg : Config) : cellOf cfg (s.pc + 1) ≠ cellOf cfg (s.pc + 2) := by
    have hne := cellOf_ne_add cfg (s.pc + 1) (d := 1) (by decide) (by decide)
    rwa [add_assoc] at hne
  have hwf0 : s.quiet.mem.wf := h
  have hwf1 := State.place_wf hwf0 s.pc (wordByte nbits w 0)
  have hwf2 := State.place_wf hwf1 (s.pc + 1) (wordByte nbits w 1)
  exact ⟨((State.holds_place hwf0 _ _).place _ (h01 _)).place _ (h02 _),
    (State.holds_place hwf1 _ _).place _ (h12 _), State.holds_place hwf2 _ _⟩

/-- A boundary that nothing disturbs chooses the instruction at PC (60_exceptions.md R320). -/
theorem State.choice_withFetchWord (s : State) (nbits w : Nat) :
    (s.withFetchWord nbits w).boundary.choice = .instruction := by
  simp [State.withFetchWord, State.place_eq, State.boundary, State.driveAll, State.choice, State.irqLow, State.quiet]

theorem State.pc_withFetchWord (s : State) (nbits w : Nat) : (s.withFetchWord nbits w).pc = s.pc := by
  simp [State.withFetchWord, State.place_eq, State.quiet]

/-- The next step fetches the instruction that was placed. -/
theorem State.fetched_withFetchWord {s : State} (h : s.mem.wf) (nbits w : Nat) :
    (s.withFetchWord nbits w).boundary.fetched =
      decodeBytes (wordByte nbits w 0) (wordByte nbits w 1) (wordByte nbits w 2) := by
  have hold : ∀ a v, (s.withFetchWord nbits w).Holds a v → (s.withFetchWord nbits w).boundary.Holds a v := by
    intro a v hv
    rwa [State.Holds, State.boundary_cfg, State.boundary_mem]
  obtain ⟨h0, h1, h2⟩ := State.holds_withFetchWord h nbits w
  rw [State.fetched, State.boundary_pc, State.pc_withFetchWord, (hold _ _ h0).read, (hold _ _ h1).read,
    (hold _ _ h2).read]

theorem decodeTableWord_eq (nbits w : Nat) :
    decodeTableWord nbits w =
      some (decodeBytes (wordByte nbits w 0) (wordByte nbits w 1) (wordByte nbits w 2)) := by
  obtain ⟨rest, h⟩ := decode_threeBytes (wordByte nbits w 0) (wordByte nbits w 1) (wordByte nbits w 2)
  rw [decodeTableWord, tableBytes_eq, h]

/-- Settles O6: the bytes placed are those of the word, and the next step fetches them. -/
theorem placedInstructionIsTheNextOneRun : Obligations.PlacedInstructionIsTheNextOneRun := by
  intro s nbits w h
  refine ⟨_, decodeTableWord_eq nbits w, ?_⟩
  rw [step_of_instruction (s.choice_withFetchWord nbits w), State.fetched_withFetchWord h]

end Sys2Proof.Machine
end

section
/-! PROOF. Register transfers, loads, stores, push and pull, each as one record update (O33 to O36). -/

namespace Sys2Proof.Machine

/-! ## Stores -/

/-- A store leaves every byte but the one at its effective address. -/
theorem sameBytes_store (f : AddrForm) (v : Byte) (s : State) : SameBytesBut [f.ea s] s (store f v s) :=
  sameBytes_of_write rfl rfl rfl

/-- A byte stored to RAM is read back at the effective address. -/
theorem read_store_ea {s : State} (hw : s.mem.wf) {f : AddrForm} (hr : kindAt s.cfg (f.ea s) = .ram) (v : Byte)
    (k : AccessKind) : (store f v s).read k (f.ea s) = v := by
  rw [store, State.read_advance]
  exact State.read_write_ram (s := s.log (f.pointerReads s)) hw hr v k

/-- Settles O35: each listed row is `store` on its own form and value, and as long as that form. -/
theorem storesWriteTheEffectiveAddressOnly : Obligations.StoresWriteTheEffectiveAddressOnly := by
  intro s nn nnnn f hf
  obtain ⟨hexec, hlen⟩ : exec f.1 s = .next (store f.2.1 f.2.2 s) ∧ f.1.length = f.2.1.length := by
    fin_cases hf <;> exact ⟨rfl, rfl⟩
  refine ⟨store f.2.1 f.2.2 s, hexec, ?_, sameBytes_store f.2.1 f.2.2 s, fun hw hr => read_store_ea hw hr f.2.2⟩
  rw [State.pcAfter, hlen, store_eq]

/-! ## Transfers and loads -/

theorem exec_txs (s : State) : exec .txs s = .next ((s.set .sp s.x).advance 1) := rfl

/-- An instruction that is `transfer`, as one record update. -/
theorem exec_of_transfer {i : Instr} (dst src : Reg) {s : State} (h : exec i s = .next (transfer dst src s)) :
    exec i s = .next { s.set dst (s.get src) with p := s.p.setNZ (s.get src), pc := s.pc + 1 } := by
  rw [h, transfer_eq]

/-- Settles O33: five of the six are `transfer`; TXS moves S and leaves the flags. -/
theorem transfersCopyARegister : Obligations.TransfersCopyARegister := fun s =>
  ⟨exec_of_transfer .y .a rfl, exec_of_transfer .x .a rfl, exec_of_transfer .x .sp rfl, exec_of_transfer .a .y rfl,
    exec_of_transfer .a .x rfl, exec_txs s⟩

/-- An instruction that is `load`, and as long as its operand, as one record update. -/
theorem exec_of_load {i : Instr} (r : Reg) {o : Operand} {s : State}
    (h : exec i s = .next (load r o s) ∧ i.length = o.length) :
    exec i s = .next
      { s.set r (o.value s) with p := s.p.setNZ (o.value s), pc := s.pcAfter i, bus := s.bus ++ o.reads s } := by
  obtain ⟨hexec, hlen⟩ := h
  rw [hexec, load_eq, State.pcAfter, hlen]

/-- Settles O34: each listed row is `load` of its register from its own operand. -/
theorem loadsPutTheOperandInTheRegister : Obligations.LoadsPutTheOperandInTheRegister := by
  intro s nn nnnn
  refine ⟨fun f hf => exec_of_load .a ?_, fun f hf => exec_of_load .x ?_,
    fun f hf => exec_of_load .y ?_⟩
  all_goals fin_cases hf <;> exact ⟨rfl, rfl⟩

/-! ## Push and pull -/

/-- A push as one record update (10_state.md R27). -/
theorem State.push_eq (s : State) (v : Byte) :
    s.push v =
      { s with
        mem := s.memAfterWrite (stackAddr s.sp) v
        sp := s.sp - 1
        bus := s.bus ++ [s.wrOf (stackAddr s.sp) v] } := rfl

/-- A pull as one record update (10_state.md R28). -/
theorem State.afterPull_eq (s : State) :
    s.afterPull = { s with sp := s.sp + 1, bus := s.bus ++ [s.rdOf .stack (stackAddr (s.sp + 1))] } := rfl

theorem exec_pha (s : State) : exec .pha s = .next ((s.push s.a).advance 1) := rfl

theorem exec_php (s : State) : exec .php s = .next ((s.push (s.p.pByte true)).advance 1) := rfl

theorem exec_pla (s : State) : exec .pla s = .next ((s.afterPull.move .a s.pulled).advance 1) := rfl

theorem exec_plp (s : State) :
    exec .plp s = .next (((s.afterPull.setP (Flags.ofByte s.pulled)).noteOldI s.p.i).advance 1) := rfl

/-- Settles O36: a push or a pull and what is done with the byte; the bytes that stay are those of the row's stores. -/
theorem pushAndPullInstructions : Obligations.PushAndPullInstructions := by
  intro s top v
  refine ⟨?_, ?_, ?_, ?_, fun t ht => ?_⟩
  · rw [exec_pha, State.push_eq]
    rfl
  · rw [exec_php, State.push_eq]
    rfl
  · rw [exec_pla, State.afterPull_eq]
    rfl
  · rw [exec_plp, State.afterPull_eq]
    rfl
  · rcases ht with hpha | hphp
    · exact exec_sameBytes hpha
    · exact exec_sameBytes hphp

end Sys2Proof.Machine
end

section
/-! PROOF. ADC and SBC, in binary and in decimal, and the reading of a subtraction as an addition (O37 to O41). -/

namespace Sys2Proof.Machine

/-! ## When decimal arithmetic is in force -/

theorem State.decimalOn_eq_false {s : State} (h : s.p.d = false ∨ s.cfg.decimal = .ignored) : s.decimalOn = false := by
  rcases h with h | h <;> simp [State.decimalOn, h]

theorem State.decimalOn_eq_true {s : State} (hd : s.p.d = true) (hc : s.cfg.decimal = .supported) :
    s.decimalOn = true := by
  simp [State.decimalOn, hd, hc]

/-! ## Addition and subtraction on the state -/

/-- Addition in binary in exact numbers (41_arithmetic_logical.md R151). -/
theorem State.adc_binary_spec {s : State} (h : s.decimalOn = false) (m : Byte) :
    (s.adc m).p.n = (s.adc m).a.getLsbD 7 ∧ (s.adc m).p.z = decide ((s.adc m).a = 0) ∧
    (s.adc m).a.toNat = (s.a.toNat + m.toNat + s.p.c.toNat) % 256 ∧
    ((s.adc m).p.c = true ↔ 255 < s.a.toNat + m.toNat + s.p.c.toNat) ∧
    ((s.adc m).p.v = true ↔
      s.a.toInt + m.toInt + s.p.c.toNat < -128 ∨ 127 < s.a.toInt + m.toInt + s.p.c.toNat) := by
  rw [State.adc_binary h, State.adcCore_eq]
  exact ⟨rfl, rfl, addBinary_spec s.a m s.p.c⟩

/-- Subtraction in binary in exact numbers (41_arithmetic_logical.md R153). -/
theorem State.sbc_binary_spec {s : State} (h : s.decimalOn = false) (m : Byte) :
    (s.sbc m).p.n = (s.sbc m).a.getLsbD 7 ∧ (s.sbc m).p.z = decide ((s.sbc m).a = 0) ∧
    ((s.sbc m).a.toNat : Int) = ((s.a.toNat : Int) - m.toNat - (1 - s.p.c.toNat)) % 256 ∧
    ((s.sbc m).p.c = true ↔ 0 ≤ (s.a.toNat : Int) - m.toNat - (1 - s.p.c.toNat)) ∧
    ((s.sbc m).p.v = true ↔
      s.a.toInt - m.toInt - (1 - s.p.c.toNat) < -128 ∨ 127 < s.a.toInt - m.toInt - (1 - s.p.c.toNat)) := by
  rw [State.sbc_binary h, State.sbcCore_eq]
  exact ⟨rfl, rfl, subBinary_spec s.a m s.p.c⟩

/-- Four decimal digits are what the check of R169 asks for: A and C are then the decimal sum. -/
theorem State.adcDecimal_of_isBcd {s : State} {m : Byte} (ha : isBcd s.a = true) (hm : isBcd m = true) :
    (s.adcDecimal m).a = (addDecimal s.a m s.p.c).value ∧ (s.adcDecimal m).p.c = (addDecimal s.a m s.p.c).carry := by
  simp [State.adcDecimal, ha, hm]

theorem State.sbcDecimal_of_isBcd {s : State} {m : Byte} (ha : isBcd s.a = true) (hm : isBcd m = true) :
    (s.sbcDecimal m).a = (subDecimal s.a m s.p.c).value ∧ (s.sbcDecimal m).p.c = (subDecimal s.a m s.p.c).carry := by
  simp [State.sbcDecimal, ha, hm]

/-- Addition in decimal mode in exact numbers, for four decimal digits (41_arithmetic_logical.md R169). -/
theorem State.adc_decimal_spec {s : State} (h : s.decimalOn = true) (m : Byte) (x1 x0 y1 y0 : Nat) (h1 : x1 ≤ 9)
    (h2 : x0 ≤ 9) (h3 : y1 ≤ 9) (h4 : y0 ≤ 9) (ha : s.a.toNat = 16 * x1 + x0) (hm : m.toNat = 16 * y1 + y0) :
    (s.adc m).a.toNat / 16 * 10 + (s.adc m).a.toNat % 16 = (10 * x1 + x0 + (10 * y1 + y0) + s.p.c.toNat) % 100 ∧
    (s.adc m).a.toNat / 16 ≤ 9 ∧ (s.adc m).a.toNat % 16 ≤ 9 ∧
    ((s.adc m).p.c = true ↔ 100 ≤ 10 * x1 + x0 + (10 * y1 + y0) + s.p.c.toNat) := by
  obtain ⟨bcdA, bcdM, spec⟩ := addDecimal_spec s.a m s.p.c x1 x0 y1 y0 h1 h2 h3 h4 ha hm
  obtain ⟨valueA, valueC⟩ := State.adcDecimal_of_isBcd bcdA bcdM
  rw [State.adc_decimal h, valueA, valueC]
  exact spec

/-- Subtraction in decimal mode in exact numbers, for four decimal digits (41_arithmetic_logical.md R170). -/
theorem State.sbc_decimal_spec {s : State} (h : s.decimalOn = true) (m : Byte) (x1 x0 y1 y0 : Nat) (h1 : x1 ≤ 9)
    (h2 : x0 ≤ 9) (h3 : y1 ≤ 9) (h4 : y0 ≤ 9) (ha : s.a.toNat = 16 * x1 + x0) (hm : m.toNat = 16 * y1 + y0) :
    ((s.sbc m).a.toNat / 16 * 10 + (s.sbc m).a.toNat % 16 : Int) =
      ((10 * x1 + x0 : Int) - (10 * y1 + y0) - (1 - s.p.c.toNat)) % 100 ∧
    (s.sbc m).a.toNat / 16 ≤ 9 ∧ (s.sbc m).a.toNat % 16 ≤ 9 ∧
    ((s.sbc m).p.c = true ↔ 0 ≤ (10 * x1 + x0 : Int) - (10 * y1 + y0) - (1 - s.p.c.toNat)) := by
  obtain ⟨bcdA, bcdM, spec⟩ := subDecimal_spec s.a m s.p.c x1 x0 y1 y0 h1 h2 h3 h4 ha hm
  obtain ⟨valueA, valueC⟩ := State.sbcDecimal_of_isBcd bcdA bcdM
  rw [State.sbc_decimal h, valueA, valueC]
  exact spec

/-! ## The frame of a step on A -/

/-- The operation changes A and the flags N, V, Z, C alone. -/
def ActsOnA (g : State → Byte → State) : Prop :=
  ∀ t m, g t m = { t with a := (g t m).a, p := { (g t m).p with d := t.p.d, i := t.p.i } }

theorem actsOnA_adc : ActsOnA State.adc := State.adc_frame

theorem actsOnA_sbc : ActsOnA State.sbc := State.sbc_frame

/-- The operation, then PC moves on, as one record update. -/
theorem ActsOnA.advance {g : State → Byte → State} (hg : ActsOnA g) (t : State) (m : Byte) (n : Nat) :
    (g t m).advance n =
      { t with
        a := (g t m).a
        p := { (g t m).p with d := t.p.d, i := t.p.i }
        pc := t.pc + BitVec.ofNat 16 n } :=
  congrArg (·.advance n) (hg t m)

/-- An instruction that is such an operation on an operand, and as long as the operand, as one record update. -/
theorem exec_of_actsOnA {g : State → Byte → State} (hg : ActsOnA g) {i : Instr} {o : Operand} {s : State}
    (h : exec i s = .next (withOperand g o s) ∧ i.length = o.length) :
    exec i s = .next
      { s with
        a := (g (s.log (o.reads s)) (o.value s)).a
        p := { (g (s.log (o.reads s)) (o.value s)).p with d := s.p.d, i := s.p.i }
        pc := s.pcAfter i
        bus := s.bus ++ o.reads s } := by
  obtain ⟨hexec, hlen⟩ := h
  rw [hexec, withOperand_eq, hg.advance, State.pcAfter, hlen]
  rfl

/-- Each of the eight forms of ADC is the addition on its own operand. -/
theorem exec_adc {s : State} {nn : Byte} {nnnn : Word} {f : Instr × Operand}
    (hf : f ∈ eightForms .adcImm .adcZp .adcZpx .adcIzx .adcIzy .adcAbs .adcAbx .adcAby nn nnnn) :
    exec f.1 s = .next (withOperand State.adc f.2 s) ∧ f.1.length = f.2.length := by
  fin_cases hf <;> exact ⟨rfl, rfl⟩

/-- Each of the eight forms of SBC, and EB, is the subtraction on its own operand. -/
theorem exec_sbc {s : State} {nn : Byte} {nnnn : Word} {f : Instr × Operand}
    (hf : f ∈ eightForms .sbcImm .sbcZp .sbcZpx .sbcIzx .sbcIzy .sbcAbs .sbcAbx .sbcAby nn nnnn ++
      [(.sbcImmEB nn, .imm nn)]) :
    exec f.1 s = .next (withOperand State.sbc f.2 s) ∧ f.1.length = f.2.length := by
  fin_cases hf <;> exact ⟨rfl, rfl⟩

/-! ## ADC and SBC -/

/-- Settles O37: where decimal arithmetic is off, N and Z are those of the sum. -/
theorem adcAddsInBinary : Obligations.AdcAddsInBinary := by
  intro s nn nnnn binary f hf
  obtain ⟨hn, hz, hr, hc, hv⟩ :=
    State.adc_binary_spec (s := s.log (f.2.reads s)) (State.decimalOn_eq_false binary) (f.2.value s)
  refine ⟨_, _, _, ?_, hr, hc, hv⟩
  rw [exec_of_actsOnA actsOnA_adc (exec_adc hf), ← hn, ← hz]

/-- Settles O38: where decimal arithmetic is off, N and Z are those of the difference. -/
theorem sbcSubtractsInBinary : Obligations.SbcSubtractsInBinary := by
  intro s nn nnnn binary f hf
  obtain ⟨hn, hz, hr, hc, hv⟩ :=
    State.sbc_binary_spec (s := s.log (f.2.reads s)) (State.decimalOn_eq_false binary) (f.2.value s)
  refine ⟨_, _, _, ?_, hr, hc, hv⟩
  rw [exec_of_actsOnA actsOnA_sbc (exec_sbc hf), ← hn, ← hz]

/-- Settles O40: N, V and Z are left to what the addition puts there. -/
theorem adcAddsInDecimal : Obligations.AdcAddsInDecimal := by
  intro s nn nnnn hd hcfg f hf
  exact ⟨_, _, _, _, _, exec_of_actsOnA actsOnA_adc (exec_adc hf),
    State.adc_decimal_spec (s := s.log (f.2.reads s)) (State.decimalOn_eq_true hd hcfg) (f.2.value s)⟩

/-- Settles O41: N, V and Z are left to what the subtraction puts there. -/
theorem sbcSubtractsInDecimal : Obligations.SbcSubtractsInDecimal := by
  intro s nn nnnn hd hcfg f hf
  exact ⟨_, _, _, _, _, exec_of_actsOnA actsOnA_sbc (exec_sbc hf),
    State.sbc_decimal_spec (s := s.log (f.2.reads s)) (State.decimalOn_eq_true hd hcfg) (f.2.value s)⟩

/-! ## Subtraction as addition -/

theorem Sum.eq_of_parts {s t : Sum} (hv : s.value.toNat = t.value.toNat) (hc : s.carry = true ↔ t.carry = true)
    (ho : s.overflow = true ↔ t.overflow = true) : s = t := by
  cases s
  cases t
  simp only [mk.injEq]
  exact ⟨BitVec.eq_of_toNat_eq hv, Bool.eq_iff_iff.2 hc, Bool.eq_iff_iff.2 ho⟩

theorem complement_toNat (m : Byte) : (m ^^^ 0xFF).toNat = 255 - m.toNat := by
  rw [show (0xFF : Byte) = BitVec.allOnes 8 from rfl, BitVec.xor_allOnes, BitVec.toNat_not]

theorem complement_toInt (m : Byte) : (m ^^^ 0xFF).toInt = -1 - m.toInt := by
  have := m.isLt
  rw [BitVec.toInt, BitVec.toInt, complement_toNat]
  split <;> split <;> omega

/-- Settles O39: in exact numbers the complement of `m` is `255 - m`, signed `-1 - m`, so both sums agree. -/
theorem subtractionIsAdditionOfTheComplement : Obligations.SubtractionIsAdditionOfTheComplement := by
  intro a m c
  have hm := m.isLt
  obtain ⟨addValue, addCarry, addOverflow⟩ := addBinary_spec a (m ^^^ 0xFF) c
  obtain ⟨subValue, subCarry, subOverflow⟩ := subBinary_spec a m c
  rw [complement_toNat] at addValue addCarry
  rw [complement_toInt] at addOverflow
  apply Sum.eq_of_parts
  · omega
  · rw [addCarry, subCarry]
    omega
  · rw [addOverflow, subOverflow]
    omega

end Sys2Proof.Machine
end

section
/-! PROOF. AND, EOR, ORA, the comparisons, BIT, and the increments and decrements (O42 to O44). -/

namespace Sys2Proof.Machine

/-! ## AND, EOR, ORA -/

/-- An instruction that replaces A by a function of A and its operand, and sets N and Z, as one record update. -/
theorem exec_of_logical (op : Byte → Byte → Byte) {i : Instr} {o : Operand} {s : State}
    (h : exec i s = .next (withOperand (fun t m => t.move .a (op t.a m)) o s) ∧ i.length = o.length) :
    exec i s = .next
      { s with
        a := op s.a (o.value s)
        p := s.p.setNZ (op s.a (o.value s))
        pc := s.pcAfter i
        bus := s.bus ++ o.reads s } := by
  obtain ⟨hexec, hlen⟩ := h
  rw [hexec, withOperand_eq, State.pcAfter, hlen]
  rfl

/-- Settles O42: each of the 24 forms moves the bitwise result to A. -/
theorem logicalOperationsOnA : Obligations.LogicalOperationsOnA := by
  intro s nn nnnn after
  refine ⟨fun f hf => exec_of_logical (· &&& ·) ?_, fun f hf => exec_of_logical (· ^^^ ·) ?_,
    fun f hf => exec_of_logical (· ||| ·) ?_⟩
  all_goals fin_cases hf <;> exact ⟨rfl, rfl⟩

/-! ## Comparisons and BIT -/

/-- An instruction that computes new flags from its operand, as one record update. -/
theorem exec_of_flagTest (flags : Flags → Byte → Flags) {i : Instr} {o : Operand} {s : State}
    (h : exec i s = .next (withOperand (fun t m => t.setP (flags t.p m)) o s) ∧ i.length = o.length) :
    exec i s = .next
      { s with p := flags s.p (o.value s), pc := s.pcAfter i, bus := s.bus ++ o.reads s } := by
  obtain ⟨hexec, hlen⟩ := h
  rw [hexec, withOperand_eq, State.pcAfter, hlen]
  rfl

/-- `Compare(r, m)` in exact numbers (41_arithmetic_logical.md R158). -/
theorem Flags.compare_spec (p : Flags) (r m : Byte) :
    ∃ n z c : Bool, p.compare r m = { p with n := n, z := z, c := c } ∧
      (c = true ↔ m.toNat ≤ r.toNat) ∧ (z = true ↔ r = m) ∧ (n = true ↔ 128 ≤ (r.toNat + 256 - m.toNat) % 256) := by
  refine ⟨_, _, _, rfl, decide_eq_true_iff, ?_, ?_⟩
  · rw [decide_eq_true_iff, sub_eq_zero]
  · have hm := m.isLt
    rw [bit7_eq, decide_eq_true_iff, BitVec.toNat_sub]
    omega

/-- Settles O43: a comparison and BIT are flag tests; the numbers are those of `Compare(r, m)`. -/
theorem comparesAndBitSetFlagsOnly : Obligations.ComparesAndBitSetFlagsOnly := by
  intro s nn nnnn
  refine ⟨fun f hf => ?_, fun f hf => ?_⟩
  · obtain ⟨n, z, c, heq, hc, hz, hn⟩ := s.p.compare_spec f.2.2 (f.2.1.value s)
    refine ⟨n, z, c, ?_, hc, hz, hn⟩
    rw [← heq]
    apply exec_of_flagTest (fun p m => p.compare f.2.2 m)
    fin_cases hf <;> exact ⟨rfl, rfl⟩
  · apply exec_of_flagTest (fun p m => p.bitTest s.a m) (o := .mem f.2)
    fin_cases hf <;> exact ⟨rfl, rfl⟩

/-! ## Increments and decrements -/

theorem incr_toNat (v : Byte) : (incr v).toNat = (v.toNat + 1) % 256 := byte_add_one_toNat v

theorem decr_toNat (v : Byte) : (decr v).toNat = (v.toNat + 255) % 256 := byte_sub_one_toNat v

/-- Settles O44: INC and DEC are one read and one write of the stepped byte, the others one register. -/
theorem incrementsAndDecrementsStepByOne : Obligations.IncrementsAndDecrementsStepByOne := by
  intro s nn nnnn
  refine ⟨fun f hf => ?_, incr s.x, incr s.y, decr s.x, decr s.y, incr_toNat _, incr_toNat _, decr_toNat _,
    decr_toNat _, rfl, rfl, rfl, rfl⟩
  obtain ⟨g, hexec, hlen, hg⟩ : ∃ g : Byte → Byte, exec f.1 s = .next (stepMem g f.2.1 s) ∧
      f.1.length = f.2.1.length ∧ ∀ v, (g v).toNat = (v.toNat + f.2.2) % 256 := by
    rcases List.mem_append.1 hf with inc | dec
    · exact ⟨incr, by fin_cases inc <;> exact ⟨rfl, rfl, incr_toNat⟩⟩
    · exact ⟨decr, by fin_cases dec <;> exact ⟨rfl, rfl, decr_toNat⟩⟩
  refine ⟨g (f.2.1.value s), stepMem g f.2.1 s, hexec, hg _, ?_, sameBytes_of_write rfl rfl rfl⟩
  rw [State.pcAfter, hlen, stepMem_eq]
  rfl

end Sys2Proof.Machine
end

section
/-! PROOF. RRA and ISC: a byte of memory is modified and written back, then A takes the full addition or subtraction
(O54). -/

namespace Sys2Proof.Machine

/-! ## The rotate of RRA -/

/-- The rotated byte in exact numbers (42_rotate_shift.md R180). -/
theorem rcr_value_toNat (v : Byte) (c : Bool) : (rcr v c).value.toNat = 128 * c.toNat + v.toNat / 2 := by
  have hv : v.toNat / 2 < 2 ^ 7 := by have := v.isLt; omega
  have hbit : (bitAt c 7).toNat = 2 ^ 7 * c.toNat := by cases c <;> rfl
  have hshift : (v >>> 1).toNat = v.toNat / 2 := by rw [BitVec.toNat_ushiftRight, Nat.shiftRight_one]
  rw [rcr, BitVec.toNat_or, hbit, hshift, ← Nat.two_pow_add_eq_or_of_lt hv]

/-- The bit rotated out is the parity of the old byte. -/
theorem rcr_carry_toNat (v : Byte) (c : Bool) : (rcr v c).carry.toNat = v.toNat % 2 := by
  rw [rcr, BitVec.getLsbD, Nat.toNat_testBit, pow_zero, Nat.div_one]

/-! ## Memory, then A -/

/-- Between the two parts of R233: `m` is written back at the effective address, the flags are `p`, the step on A is to
come. -/
def State.modified (s : State) (f : AddrForm) (m : Byte) (p : Flags) : State := (s.rmw f m).setP p

theorem shiftThen_eq_modified (op : Byte → Bool → Shifted) (g : State → Byte → State) (f : AddrForm) (s : State) :
    shiftThen op g f s =
      (g (s.modified f (op (f.value s) s.p.c).value (s.p.setC (op (f.value s) s.p.c).carry))
        (op (f.value s) s.p.c).value).advance f.length := rfl

theorem stepThen_eq_modified (h : Byte → Byte) (g : State → Byte → State) (f : AddrForm) (s : State) :
    stepThen h g f s = (g (s.modified f (h (f.value s)) s.p) (h (f.value s))).advance f.length := rfl

/-- A byte written back, then a step on A, then PC, as one record update. -/
theorem exec_of_modified {g : State → Byte → State} (hg : ActsOnA g) {i : Instr} {f : AddrForm} {s : State} {m : Byte}
    {p : Flags} (h : exec i s = .next ((g (s.modified f m p) m).advance f.length)) (hlen : i.length = f.length) :
    exec i s = .next
      { s with
        a := (g (s.modified f m p) m).a
        mem := s.memAfterWrite (f.ea s) m
        p := { (g (s.modified f m p) m).p with d := p.d, i := p.i }
        pc := s.pcAfter i
        bus := s.bus ++ f.reads s ++ [s.wrOf (f.ea s) m] } := by
  rw [h, hg.advance, State.pcAfter, hlen]
  rfl

/-! ## RRA and ISC -/

/-- Each of the seven forms of RRA adds its own byte, rotated right, with the bit rotated out as carry in
(44_illegal_opcodes.md R237). -/
theorem exec_rra {s : State} {nn : Byte} {nnnn : Word} {f : Instr × AddrForm}
    (hf : f ∈ sevenForms .rraZp .rraZpx .rraIzx .rraIzy .rraAbs .rraAbx .rraAby nn nnnn) :
    f.1.length = f.2.length ∧ ∃ (m : Byte) (c : Bool),
      m.toNat = 128 * s.p.c.toNat + (f.2.value s).toNat / 2 ∧ c.toNat = (f.2.value s).toNat % 2 ∧
      exec f.1 s = .next (((s.modified f.2 m (s.p.setC c)).adc m).advance f.2.length) := by
  obtain ⟨hexec, hlen⟩ : exec f.1 s = .next (shiftThen rcr State.adc f.2 s) ∧ f.1.length = f.2.length := by
    fin_cases hf <;> exact ⟨rfl, rfl⟩
  rw [shiftThen_eq_modified] at hexec
  exact ⟨hlen, _, _, rcr_value_toNat _ _, rcr_carry_toNat _ _, hexec⟩

/-- Each of the seven forms of ISC subtracts its own byte, incremented (44_illegal_opcodes.md R239). -/
theorem exec_isc {s : State} {nn : Byte} {nnnn : Word} {f : Instr × AddrForm}
    (hf : f ∈ sevenForms .iscZp .iscZpx .iscIzx .iscIzy .iscAbs .iscAbx .iscAby nn nnnn) :
    f.1.length = f.2.length ∧ ∃ m : Byte, m.toNat = ((f.2.value s).toNat + 1) % 256 ∧
      exec f.1 s = .next (((s.modified f.2 m s.p).sbc m).advance f.2.length) := by
  obtain ⟨hexec, hlen⟩ : exec f.1 s = .next (stepThen incr State.sbc f.2 s) ∧ f.1.length = f.2.length := by
    fin_cases hf <;> exact ⟨rfl, rfl⟩
  rw [stepThen_eq_modified] at hexec
  exact ⟨hlen, _, incr_toNat _, hexec⟩

/-- Settles O54: RRA is the addition with the bit rotated out as carry, ISC the subtraction with the old carry; the byte
written back does not change whether decimal arithmetic is in force. -/
theorem modifyThenArithmeticOpcodes : Obligations.ModifyThenArithmeticOpcodes := by
  intro s nn nnnn binary
  refine ⟨fun f hf => ?_, fun f hf => ?_⟩
  · obtain ⟨hlen, m, c, hm, hc, hexec⟩ := exec_rra (s := s) hf
    refine ⟨m, _, _, _, _, _, _, exec_of_modified actsOnA_adc hexec hlen, hm, rfl, sameBytes_of_write rfl rfl rfl, ?_⟩
    rw [← hc]
    exact ⟨fun hb => State.adc_binary_spec (s := s.modified f.2 m (s.p.setC c)) (State.decimalOn_eq_false hb) m,
      fun hd hs => State.adc_decimal_spec (s := s.modified f.2 m (s.p.setC c)) (State.decimalOn_eq_true hd hs) m⟩
  · obtain ⟨hlen, m, hm, hexec⟩ := exec_isc (s := s) hf
    exact ⟨m, _, _, _, _, _, _, exec_of_modified actsOnA_sbc hexec hlen, hm, rfl, sameBytes_of_write rfl rfl rfl,
      fun hb => State.sbc_binary_spec (s := s.modified f.2 m s.p) (State.decimalOn_eq_false hb) m,
      fun hd hs => State.sbc_decimal_spec (s := s.modified f.2 m s.p) (State.decimalOn_eq_true hd hs) m⟩

end Sys2Proof.Machine
end

section
/-! PROOF. The one-bit operations in numbers, the shifts and rotates of A and of memory, and the nine rotates that go
round (O45 to O47). -/

namespace Sys2Proof.Machine

/-! ## The four one-bit operations in numbers -/

/-- A shift left is a rotate left with 0 coming in. -/
theorem shl_eq_rcl (v : Byte) (c : Bool) : shl v c = rcl v false := by simp [shl, rcl, bitAt]

/-- A shift right is a rotate right with 0 coming in. -/
theorem shr_eq_rcr (v : Byte) (c : Bool) : shr v c = rcr v false := by simp [shr, rcr, bitAt]

/-- The byte rotated left in exact numbers (42_rotate_shift.md R180). -/
theorem rcl_value_toNat (v : Byte) (c : Bool) : (rcl v c).value.toNat = (2 * v.toNat + c.toNat) % 256 := by
  have hc : c.toNat < 2 ^ 1 := by have := c.toNat_lt; omega
  have hbit : (bitAt c 0).toNat = c.toNat := by cases c <;> rfl
  have hshift : (v <<< 1).toNat = 2 ^ 1 * (v.toNat % 128) := by
    rw [BitVec.toNat_shiftLeft, Nat.shiftLeft_eq]
    omega
  rw [rcl, BitVec.toNat_or, hbit, hshift, ← Nat.two_pow_add_eq_or_of_lt hc]
  omega

/-- The bit rotated out on the left is the sign of the old byte. -/
theorem rcl_carry_iff (v : Byte) (c : Bool) : (rcl v c).carry = true ↔ 128 ≤ v.toNat := by
  rw [rcl, bit7_eq, decide_eq_true_iff]

/-- The bit rotated out on the right is 1 where the old byte is odd. -/
theorem rcr_carry_iff (v : Byte) (c : Bool) : (rcr v c).carry = true ↔ v.toNat % 2 = 1 := by
  rw [← rcr_carry_toNat v c, Bool.toNat_eq_one]

/-- Settles O45: the shifts are the rotates with 0 coming in, so the numbers of the rotates are those of all four. -/
theorem oneBitOperations : Obligations.OneBitOperations := by
  intro v c
  rw [shl_eq_rcl, shr_eq_rcr]
  refine ⟨⟨rcl_value_toNat v false, rcl_carry_iff v false⟩, ⟨?_, rcr_carry_iff v false⟩,
    ⟨rcl_value_toNat v c, rcl_carry_iff v c⟩, ⟨rcr_value_toNat v c, rcr_carry_iff v c⟩⟩
  rw [rcr_value_toNat, Bool.toNat_false, mul_zero, zero_add]

/-! ## The 20 forms -/

theorem ifRor_of_hasRor {s : State} (h : s.cfg.hasRor = true) (t : State) : ifRor s t = .next t := if_pos h

theorem exec_rolAcc (s : State) : exec .rolAcc s = .next (shiftAcc rcl s) := rfl

theorem exec_rorAcc {s : State} (h : s.cfg.hasRor = true) : exec .rorAcc s = .next (shiftAcc rcr s) :=
  ifRor_of_hasRor h _

/-- Each of the four memory forms of ROR is the rotate of its own byte, on a part that has it. -/
theorem exec_rorMem {s : State} {nn : Byte} {nnnn : Word} {f : Instr × AddrForm} (h : s.cfg.hasRor = true)
    (hf : f ∈ fourForms .rorZp .rorZpx .rorAbs .rorAbx nn nnnn) :
    exec f.1 s = .next (shiftMem rcr f.2 s) ∧ f.1.length = f.2.length := by
  fin_cases hf <;> exact ⟨ifRor_of_hasRor h _, rfl⟩

/-- Settles O46: each row is `shiftAcc` or `shiftMem` of its operation; the record updates are those of the two. -/
theorem shiftsAndRotates : Obligations.ShiftsAndRotates := by
  intro s nn nnnn g hg hror
  obtain ⟨hacc, hmem⟩ : exec g.1 s = .next (shiftAcc g.2.2 s) ∧
      ∀ f ∈ g.2.1, exec f.1 s = .next (shiftMem g.2.2 f.2 s) ∧ f.1.length = f.2.length := by
    fin_cases hg
    iterate 3 · exact ⟨rfl, fun f hf => by fin_cases hf <;> exact ⟨rfl, rfl⟩⟩
    · exact ⟨exec_rorAcc (hror rfl), fun f hf => exec_rorMem (hror rfl) hf⟩
  refine ⟨⟨_, _, rfl, hacc⟩, fun f hf => ?_⟩
  obtain ⟨hexec, hlen⟩ := hmem f hf
  refine ⟨_, _, shiftMem g.2.2 f.2 s, rfl, hexec, ?_, sameBytes_of_write rfl rfl rfl⟩
  rw [State.pcAfter, hlen, shiftMem_eq]

/-! ## The ring of A and C -/

/-- The nine bits that a rotate moves: those of A in places 0 to 7, C in place 8. -/
def acRing (v : Byte) (c : Bool) (k : Fin 9) : Bool := if k.val = 8 then c else v.getLsbD k

theorem acRing_last (v : Byte) (c : Bool) : acRing v c (Fin.last 8) = c := if_pos rfl

theorem acRing_castSucc (v : Byte) (c : Bool) (k : Fin 8) : acRing v c k.castSucc = v.getLsbD k := if_neg k.isLt.ne

/-- The ring determines A and C. -/
theorem eq_of_acRing_eq {v w : Byte} {b c : Bool} (h : ∀ k, acRing v b k = acRing w c k) : v = w ∧ b = c := by
  refine ⟨BitVec.eq_of_getLsbD_eq fun i hi => ?_, ?_⟩
  · simpa only [acRing_castSucc] using h (Fin.castSucc ⟨i, hi⟩)
  · simpa only [acRing_last] using h (Fin.last 8)

/-- The operation moves each bit of the ring up by `d` places, from the top round to the bottom. -/
def MovesRing (op : Byte → Bool → Shifted) (d : Fin 9) : Prop :=
  ∀ v c k, acRing (op v c).value (op v c).carry (k + d) = acRing v c k

theorem getElem_bitAt (b : Bool) {j k : Nat} (hj : j < 8) (hk : k < 8) :
    (bitAt b k)[j] = (b && decide (j = k)) := getLsbD_bitAt b hk

theorem movesRing_rcl : MovesRing rcl 1 := by
  intro v c k
  fin_cases k <;> simp [acRing, rcl, getElem_bitAt]

/-- Eight places up a ring of nine is one place down. -/
theorem movesRing_rcr : MovesRing rcr 8 := by
  intro v c k
  fin_cases k <;> simp [acRing, rcr, getElem_bitAt]

/-- Repeated on A and C, the operation moves each bit as many times. -/
theorem execTimes_movesRing {op : Byte → Bool → Shifted} {d : Fin 9} (hop : MovesRing op d) {i : Instr}
    {cfg : Config} (hi : ∀ s : State, s.cfg = cfg → exec i s = .next (shiftAcc op s)) (n : Nat) :
    ∀ s : State, s.cfg = cfg →
      ∃ t, execTimes i n s = .next t ∧ ∀ k, acRing t.a t.p.c (k + n • d) = acRing s.a s.p.c k := by
  induction n with
  | zero => exact fun s _ => ⟨s, rfl, fun k => by rw [zero_nsmul, add_zero]⟩
  | succ n ih =>
    intro s hs
    obtain ⟨t, ht, hring⟩ := ih (shiftAcc op s) hs
    refine ⟨t, by rw [execTimes, hi s hs]; exact ht, fun k => ?_⟩
    rw [succ_nsmul', ← add_assoc, hring]
    exact hop s.a s.p.c k

/-- Nine times round the ring of nine is back at the start. -/
theorem nine_nsmul_eq_zero : ∀ d : Fin 9, 9 • d = 0 := by decide

/-- An instruction that moves the ring of A and C restores both when it is done nine times. -/
theorem execTimes_nine {op : Byte → Bool → Shifted} {d : Fin 9} (hop : MovesRing op d) {i : Instr} {s : State}
    (hi : ∀ t : State, t.cfg = s.cfg → exec i t = .next (shiftAcc op t)) :
    ∃ t, execTimes i 9 s = .next t ∧ t.a = s.a ∧ t.p.c = s.p.c := by
  obtain ⟨t, ht, hring⟩ := execTimes_movesRing hop hi 9 s rfl
  exact ⟨t, ht, eq_of_acRing_eq fun k => by rw [← hring k, nine_nsmul_eq_zero, add_zero]⟩

/-- Settles O47: ROL moves the ring one place up, ROR one place down, and neither changes whether the part has ROR. -/
theorem nineRotatesRestoreAAndC : Obligations.NineRotatesRestoreAAndC := fun _ =>
  ⟨execTimes_nine movesRing_rcl fun t _ => exec_rolAcc t,
    fun hror => execTimes_nine movesRing_rcr fun _ ht => exec_rorAcc (ht ▸ hror)⟩

end Sys2Proof.Machine
end

section
/-! PROOF. Control: the entry that BRK makes, the return of RTI, a subroutine's return to its caller, the flag
instructions (O17, O18, O50, O52). -/

namespace Sys2Proof.Machine

/-! ## BRK -/

/-- An interrupt entry takes PC from its vector as the state after the pushes reads it (60_exceptions.md R303). -/
theorem State.interrupt_pc (s : State) (vector : Word) (b : Bool) (ret : Word) :
    (s.interrupt vector b ret).pc = (s.interrupt vector b ret).readWord .vector vector (vector + 1) := rfl

/-- The accesses of an interrupt entry whose vector no push can reach, each with the byte that `s` holds. -/
theorem State.interrupt_bus_of_high (s : State) {vector : Word} (b : Bool) (ret : Word) (hlo : 0xFF00 ≤ vector.toNat)
    (hhi : 0xFF00 ≤ (vector + 1).toNat) :
    (s.interrupt vector b ret).bus = s.bus ++
      [s.wrOf (stackAddr s.sp) (hiByte ret), s.wrOf (stackAddr (s.sp - 1)) (loByte ret),
        s.wrOf (stackAddr (s.sp - 1 - 1)) (s.p.pByte b), s.rdOf .vector vector, s.rdOf .vector (vector + 1)] := by
  have hreads : ((s.pushWord ret).push (s.p.pByte b)).rdWordOf .vector vector (vector + 1) =
      [.rd (cellOf s.cfg vector) ((s.interrupt vector b ret).read .vector vector),
        .rd (cellOf s.cfg (vector + 1)) ((s.interrupt vector b ret).read .vector (vector + 1))] := rfl
  rw [State.interrupt_bus, hreads, s.read_interrupt_high vector b ret .vector hlo,
    s.read_interrupt_high vector b ret .vector hhi, List.append_assoc]
  rfl

/-- What an interrupt entry does, where no push can reach its vector: all three vectors stand in page FFh
(20_memory.md R66). -/
theorem State.interruptEntered_of_high (s : State) {vector : Word} (b : Bool) (ret : Word)
    (hlo : 0xFF00 ≤ vector.toNat) (hhi : 0xFF00 ≤ (vector + 1).toNat) :
    InterruptEntered s (s.interrupt vector b ret) vector b ret := by
  have hsp2 : s.sp - 1 - 1 = s.sp - 2 := sub_sub s.sp 1 1
  have hsp3 : s.sp - 2 - 1 = s.sp - 3 := sub_sub s.sp 2 1
  have hpc : (s.interrupt vector b ret).pc = wordOf (s.read .vector vector) (s.read .vector (vector + 1)) := by
    rw [State.interrupt_pc, State.readWord, s.read_interrupt_high vector b ret .vector hlo,
      s.read_interrupt_high vector b ret .vector hhi]
  have hkeeps := s.sameBytes_interrupt vector b ret
  have hframe := fun (hw : s.mem.wf) (hs : StackIsRam s) => State.read_interrupt_frame hw hs vector b ret
  have hsp := s.interrupt_sp vector b ret
  have hbus := s.interrupt_bus_of_high b ret hlo hhi
  rw [hsp2] at hkeeps hframe hsp hbus
  rw [hsp3] at hsp
  exact ⟨s.interrupt_a .., s.interrupt_x .., s.interrupt_y .., hsp, s.interrupt_p .., s.interrupt_halted .., hpc,
    hkeeps, hframe, hbus⟩

theorem exec_brk (s : State) : exec .brk s = .next (s.interrupt irqVector true (s.pc + 2)) := rfl

/-- Settles O17: BRK is the interrupt entry through FFFEh, with B = 1 and return address two past its opcode. -/
theorem brkEntersThroughItsVector : Obligations.BrkEntersThroughItsVector := fun s =>
  ⟨s.interrupt irqVector true (s.pc + 2), exec_brk s,
    s.interruptEntered_of_high true (s.pc + 2) (by decide) (by decide),
    exec_sameSurroundings (exec_brk s), s.interrupt_lateI ..⟩

/-! ## RTI -/

/-- The return from an interrupt as one record update: the flags pulled, then a word (43_jump_control.md R195). -/
theorem State.returnFromInterrupt_eq (s : State) :
    s.returnFromInterrupt =
      { s with
        p := Flags.ofByte (s.read .stack (stackAddr (s.sp + 1)))
        pc := wordOf (s.read .stack (stackAddr (s.sp + 2))) (s.read .stack (stackAddr (s.sp + 3)))
        sp := s.sp + 3
        bus := s.bus ++
          [s.rdOf .stack (stackAddr (s.sp + 1)), s.rdOf .stack (stackAddr (s.sp + 2)),
            s.rdOf .stack (stackAddr (s.sp + 3))] } := by
  have hsp2 : s.sp + 1 + 1 = s.sp + 2 := add_assoc s.sp 1 1
  have hsp3 : s.sp + 1 + 2 = s.sp + 3 := add_assoc s.sp 1 2
  simp only [State.returnFromInterrupt, State.afterPull_afterPull s.afterPull, State.pulledWord_eq s.afterPull,
    State.afterPull_sp, State.afterPull_bus, State.read_afterPull, hsp2, hsp3, List.append_assoc]
  rfl

theorem exec_rti (s : State) : exec .rti s = .next s.returnFromInterrupt := rfl

/-- Settles O18: the flags loaded from a byte are its bits (10_state.md R39). -/
theorem rtiRestoresFlagsAndPc : Obligations.RtiRestoresFlagsAndPc := by
  intro s
  rw [exec_rti, State.returnFromInterrupt_eq]
  rfl

/-! ## RTS after JSR -/

/-- A word pushed onto RAM is the word pulled in any later state whose S and two bytes above S are as the push
left them. -/
theorem State.pulledWord_of_pushWord {s u : State} (hw : s.mem.wf) (hs : StackIsRam s) (w : Word)
    (hsp : u.sp = (s.pushWord w).sp)
    (hframe : ∀ d ∈ [(1 : Byte), 2],
      u.read .stack (stackAddr (u.sp + d)) = (s.pushWord w).read .stack (stackAddr (u.sp + d))) :
    u.pulledWord = w := by
  obtain ⟨hhi, hlo⟩ := State.read_pushWord hw hs w .stack
  have hsp1 : u.sp + 1 = s.sp - 1 := by rw [hsp, State.pushWord_sp, sub_add_cancel]
  have hsp2 : u.sp + 2 = s.sp := by rw [hsp, State.pushWord_sp, sub_sub]; exact sub_add_cancel s.sp 2
  rw [State.pulledWord_eq, hframe 1 (by simp), hframe 2 (by simp), hsp1, hsp2, hhi, hlo, wordOf_halves]

/-- Settles O50: RTS pulls the address that JSR pushed, one less than that of the next instruction. -/
theorem rtsComesBackAfterTheJsr : Obligations.RtsComesBackAfterTheJsr := by
  intro s t u nnnn hw hs hjsr hsp hframe
  obtain rfl : (s.pushWord (s.pc + 2)).jump nnnn = t := by rwa [exec_jsr, Host.Outcome.next.injEq] at hjsr
  have hret : u.pulledWord = s.pc + 2 := State.pulledWord_of_pushWord hw hs (s.pc + 2) hsp hframe
  refine ⟨_, exec_rts u, ?_, ?_, rfl, rfl, rfl, rfl, rfl⟩
  · rw [State.jump_pc, hret]
    exact add_assoc s.pc 2 1
  · rw [State.jump_sp, State.afterPull_sp, State.afterPull_sp, hsp, State.jump_sp, State.pushWord_sp, sub_add_cancel,
      sub_add_cancel]

/-! ## Flag instructions -/

/-- An instruction that is `setFlags`, as one record update. -/
theorem exec_of_setFlags {i : Instr} {f : Flags} {s : State} (h : exec i s = .next (setFlags f s)) :
    exec i s = .next { s with p := f, pc := s.pc + 1 } := by
  rw [h, setFlags_eq]

/-- An instruction that is `setFlags` and remembers the old I, as one record update. -/
theorem exec_of_setFlags_noteOldI {i : Instr} {f : Flags} {s : State}
    (h : exec i s = .next ((setFlags f s).noteOldI s.p.i)) :
    exec i s = .next { s with p := f, pc := s.pc + 1, lateI := some s.p.i } := by
  rw [h, setFlags_eq]
  rfl

theorem exec_nop (s : State) : exec .nop s = .next (s.advance 1) := rfl

/-- Settles O52: seven are `setFlags`, of which CLI and SEI also remember the old I; NOP only advances PC. -/
theorem flagInstructionsChangeOneFlag : Obligations.FlagInstructionsChangeOneFlag := fun s =>
  ⟨exec_of_setFlags rfl, exec_of_setFlags_noteOldI rfl, exec_of_setFlags rfl, exec_of_setFlags rfl,
    exec_of_setFlags rfl, exec_of_setFlags_noteOldI rfl, exec_of_setFlags rfl, exec_nop s⟩

end Sys2Proof.Machine
end

section
/-! PROOF. A halted CPU stays halted, and as it is, until /RESET is driven LOW (O20). -/

namespace Sys2Proof.Machine

/-- The CPU is halted, /RESET is HIGH, and the environment never drives it LOW. -/
def HaltedForGood (s : State) : Prop := s.halted = true ∧ s.lines.reset = .high ∧ NoResetToCome s

/-- What a program can observe of the CPU: registers, flags and memory. -/
def SameRegistersAndMemory (s t : State) : Prop :=
  t.a = s.a ∧ t.x = s.x ∧ t.y = s.y ∧ t.sp = s.sp ∧ t.pc = s.pc ∧ t.p = s.p ∧ t.mem = s.mem

theorem SameRegistersAndMemory.refl (s : State) : SameRegistersAndMemory s s := ⟨rfl, rfl, rfl, rfl, rfl, rfl, rfl⟩

theorem SameRegistersAndMemory.trans {s t u : State} (hst : SameRegistersAndMemory s t)
    (htu : SameRegistersAndMemory t u) : SameRegistersAndMemory s u := by
  obtain ⟨a, x, y, sp, pc, p, mem⟩ := hst
  obtain ⟨a', x', y', sp', pc', p', mem'⟩ := htu
  exact ⟨a'.trans a, x'.trans x, y'.trans y, sp'.trans sp, pc'.trans pc, p'.trans p, mem'.trans mem⟩

/-- Pin changes none of which drives /RESET LOW leave it HIGH. -/
theorem State.reset_driveAll {changes : List PinChange} (h : ∀ ch ∈ changes, ch ≠ ⟨.reset, .low⟩) {s : State}
    (hs : s.lines.reset = .high) : (s.driveAll changes).lines.reset = .high := by
  induction changes generalizing s with
  | nil => exact hs
  | cons ch rest ih =>
    obtain ⟨hch, hrest⟩ := List.forall_mem_cons.1 h
    refine ih hrest ((s.level_drive ch .reset).trans ?_)
    obtain ⟨line, level⟩ := ch
    split
    · next hline =>
      cases level with
      | high => rfl
      | low => exact absurd (congrArg (PinChange.mk · .low) hline) hch
    · exact hs

/-- With no RESET to come the next boundary leaves /RESET HIGH. -/
theorem State.reset_boundary {s : State} (hs : s.lines.reset = .high) (h : NoResetToCome s) :
    s.boundary.lines.reset = .high := by
  refine State.reset_driveAll (fun ch hch => ?_) hs
  cases hi : s.inputs with
  | nil => simp [hi] at hch
  | cons now later => exact h now (by simp [hi]) ch (by simpa [hi] using hch)

/-- Halted comes before NMI, IRQ and the instruction in the choice (60_exceptions.md R320). -/
theorem State.choice_of_halted {s : State} (hh : s.halted = true) (hr : s.lines.reset = .high) :
    s.choice = .halted := by
  simp [State.choice, hh, hr]

/-- All that a step of such a CPU can do is let a boundary pass. -/
theorem HaltedForGood.step_eq {s t : State} (h : HaltedForGood s) (hstep : step s = .next t) :
    t = s.boundary.begun := by
  obtain ⟨hhalted, hreset, hcome⟩ := h
  have hchoice : s.boundary.choice = .halted :=
    State.choice_of_halted (by rw [State.boundary_halted, hhalted]) (State.reset_boundary hreset hcome)
  rw [step, hchoice] at hstep
  simp only at hstep
  split at hstep
  · cases hstep
  · exact (Host.Outcome.next.inj hstep).symm

theorem HaltedForGood.of_step {s t : State} (h : HaltedForGood s) (hstep : step s = .next t) :
    HaltedForGood t ∧ SameRegistersAndMemory s t := by
  obtain rfl := h.step_eq hstep
  obtain ⟨hhalted, hreset, hcome⟩ := h
  refine ⟨⟨?_, State.reset_boundary hreset hcome, fun entry he => hcome entry (List.mem_of_mem_tail he)⟩, ?_⟩
  · rw [State.begun_halted, State.boundary_halted, hhalted]
  · simp [SameRegistersAndMemory]

theorem HaltedForGood.of_steps (k : Nat) {s t : State} (h : HaltedForGood s) (hsteps : steps k s = .next t) :
    HaltedForGood t ∧ SameRegistersAndMemory s t := by
  induction k generalizing s with
  | zero =>
    obtain rfl := Host.Outcome.next.inj hsteps
    exact ⟨h, .refl s⟩
  | succ k ih =>
    rw [steps] at hsteps
    split at hsteps
    · next u hstep =>
      obtain ⟨hu, hsu⟩ := h.of_step hstep
      obtain ⟨ht, hut⟩ := ih hu hsteps
      exact ⟨ht, hsu.trans hut⟩
    · cases hsteps
    · cases hsteps

/-- Settles O20, by induction on the number of steps. -/
theorem haltedCpuStaysAsItIsUntilReset : Obligations.HaltedCpuStaysAsItIsUntilReset := by
  intro k s t hhalted hreset hcome hsteps
  obtain ⟨⟨hhalted', -, -⟩, hsame⟩ := HaltedForGood.of_steps k ⟨hhalted, hreset, hcome⟩ hsteps
  exact ⟨hhalted', hsame⟩

end Sys2Proof.Machine
end

section
/-! PROOF. The illegal opcodes: two operations in one on memory, loads of several registers, the immediate forms, the
unstable stores, the NOPs and KIL (O53, O55 to O59). -/

namespace Sys2Proof.Machine

/-! ## A byte of memory is modified, then A works with it -/

theorem shl_value_toNat (v : Byte) (c : Bool) : (shl v c).value.toNat = 2 * v.toNat % 256 := by
  rw [shl_eq_rcl, rcl_value_toNat, Bool.toNat_false, add_zero]

theorem shr_value_toNat (v : Byte) (c : Bool) : (shr v c).value.toNat = v.toNat / 2 := by
  rw [shr_eq_rcr, rcr_value_toNat, Bool.toNat_false, mul_zero, zero_add]

/-- An instruction that shifts a byte of memory and then replaces A by a function of A and the new byte, as one record
update (44_illegal_opcodes.md R233). -/
theorem exec_of_shiftThen_logical (shift : Byte → Bool → Shifted) (op : Byte → Byte → Byte) {i : Instr} {f : AddrForm}
    {s : State}
    (h : exec i s = .next (shiftThen shift (fun t m => t.move .a (op t.a m)) f s) ∧ i.length = f.length) :
    exec i s = .next
      { s with
        a := op s.a (shift (f.value s) s.p.c).value
        mem := s.memAfterWrite (f.ea s) (shift (f.value s) s.p.c).value
        p := (s.p.setC (shift (f.value s) s.p.c).carry).setNZ (op s.a (shift (f.value s) s.p.c).value)
        pc := s.pcAfter i
        bus := s.bus ++ f.reads s ++ [s.wrOf (f.ea s) (shift (f.value s) s.p.c).value] } := by
  obtain ⟨hexec, hlen⟩ := h
  rw [hexec, shiftThen_eq, State.pcAfter, hlen]
  rfl

/-- Settles O53: each row is `shiftThen` of its shift and its logical operation, on its own form. -/
theorem shiftThenLogicOpcodes : Obligations.ShiftThenLogicOpcodes := by
  intro s nn nnnn after
  refine ⟨fun f hf => ⟨_, _, shl_value_toNat _ s.p.c, exec_of_shiftThen_logical shl (· ||| ·) ?_, rfl,
      sameBytes_of_write rfl rfl rfl⟩,
    fun f hf => ⟨_, _, rcl_value_toNat _ _, exec_of_shiftThen_logical rcl (· &&& ·) ?_, rfl,
      sameBytes_of_write rfl rfl rfl⟩,
    fun f hf => ⟨_, _, shr_value_toNat _ s.p.c, exec_of_shiftThen_logical shr (· ^^^ ·) ?_, rfl,
      sameBytes_of_write rfl rfl rfl⟩⟩
  all_goals fin_cases hf <;> exact ⟨rfl, rfl⟩

/-- Each of the seven forms of DCP decrements its own byte and compares A with the new one, as one record update
(44_illegal_opcodes.md R238). -/
theorem exec_dcp {s : State} {nn : Byte} {nnnn : Word} {f : Instr × AddrForm}
    (hf : f ∈ sevenForms .dcpZp .dcpZpx .dcpIzx .dcpIzy .dcpAbs .dcpAbx .dcpAby nn nnnn) :
    exec f.1 s = .next
      { s with
        mem := s.memAfterWrite (f.2.ea s) (decr (f.2.value s))
        p := s.p.compare s.a (decr (f.2.value s))
        pc := s.pcAfter f.1
        bus := s.bus ++ f.2.reads s ++ [s.wrOf (f.2.ea s) (decr (f.2.value s))] } := by
  obtain ⟨hexec, hlen⟩ : exec f.1 s = .next (stepThen decr (fun t m => t.compareWith .a m) f.2 s) ∧
      f.1.length = f.2.length := by
    fin_cases hf <;> exact ⟨rfl, rfl⟩
  rw [hexec, stepThen_eq, State.pcAfter, hlen]
  rfl

/-- Settles O55: the numbers are those of `Compare(A, m)`. -/
theorem dcpDecrementsThenCompares : Obligations.DcpDecrementsThenCompares := by
  intro s nn nnnn f hf
  obtain ⟨n, z, c, hflags, hc, hz, hn⟩ := s.p.compare_spec s.a (decr (f.2.value s))
  refine ⟨_, n, z, c, _, exec_dcp hf, decr_toNat _, ?_, sameBytes_of_write rfl rfl rfl, hc, hz, hn⟩
  rw [hflags]

/-! ## Loads of several registers -/

/-- `LAX_BF_INDEX` in the words of R232. -/
theorem laxBfForm_eq (cfg : Config) (nnnn : Word) :
    laxBfForm cfg nnnn = if cfg.laxBfIndex = .x then .abx nnnn else .aby nnnn := by
  unfold laxBfForm
  cases cfg.laxBfIndex <;> rfl

/-- Opcode BF loads from the form that the parameter gives; both forms are as long as the instruction. -/
theorem exec_laxAbx (nnnn : Word) (s : State) :
    exec (.laxAbx nnnn) s = .next (withOperand State.laxWith (.mem (laxBfForm s.cfg nnnn)) s) ∧
      (Instr.laxAbx nnnn).length = (laxBfForm s.cfg nnnn).length := by
  refine ⟨rfl, ?_⟩
  unfold laxBfForm
  cases s.cfg.laxBfIndex <;> rfl

/-- An instruction that loads A and X from memory, as one record update. -/
theorem exec_of_lax {i : Instr} {f : AddrForm} {s : State}
    (h : exec i s = .next (withOperand State.laxWith (.mem f) s) ∧ i.length = f.length) :
    exec i s = .next
      { s with
        a := f.value s
        x := f.value s
        p := s.p.setNZ (f.value s)
        pc := s.pcAfter i
        bus := s.bus ++ f.reads s } := by
  obtain ⟨hexec, hlen⟩ := h
  rw [hexec, withOperand_eq, State.pcAfter, hlen]
  rfl

theorem exec_las (nnnn : Word) (s : State) :
    exec (.las nnnn) s = .next (withOperand State.las (.mem (.aby nnnn)) s) := rfl

/-- Settles O56: the rows of LAX are one load, from the form of the parameter for BF; LAS puts its byte in S too. -/
theorem laxAndLasLoadSeveralRegisters : Obligations.LaxAndLasLoadSeveralRegisters := by
  intro s nn nnnn
  rw [← laxBfForm_eq]
  refine ⟨fun f hf => exec_of_lax ?_, ?_⟩
  · fin_cases hf
    iterate 3 · exact ⟨rfl, rfl⟩
    · exact exec_laxAbx nnnn s
    iterate 2 · exact ⟨rfl, rfl⟩
  · rintro r rfl
    rw [exec_las, withOperand_eq]
    rfl

/-! ## Immediate forms -/

/-- An immediate operand makes no access. -/
theorem withOperand_imm (g : State → Byte → State) (nn : Byte) (s : State) :
    withOperand g (.imm nn) s = (g s nn).advance 2 := by
  have hlog : s.log [] = s := by rw [State.log, List.append_nil]
  rw [withOperand_eq, Operand.reads, hlog]
  rfl

/-- An instruction that is an operation on its immediate operand performs it on the state as it is, then moves PC. -/
theorem exec_of_immediate {g : State → Byte → State} {i : Instr} {nn : Byte} {s : State}
    (h : exec i s = .next (withOperand g (.imm nn) s)) : exec i s = .next ((g s nn).advance 2) := by
  rw [h, withOperand_imm]

theorem State.anc_eq (s : State) (m : Byte) :
    s.anc m =
      { s with
        a := s.a &&& m
        p := { s.p with
               n := (s.a &&& m).getLsbD 7, z := decide (s.a &&& m = 0), c := (s.a &&& m).getLsbD 7 } } := rfl

/-- ALR clears N, since a shift to the right brings 0 in at bit 7 (44_illegal_opcodes.md R256). -/
theorem State.alr_eq (s : State) (m : Byte) :
    s.alr m =
      { s with
        a := (s.a &&& m) >>> 1
        p := { s.p with n := false, z := decide ((s.a &&& m) >>> 1 = 0), c := (s.a &&& m).getLsbD 0 } } := by
  rw [← shr_value_bit7 (s.a &&& m) s.p.c]
  rfl

/-- AXS sets Z where both sides of its comparison are equal (44_illegal_opcodes.md R261). -/
theorem State.axs_eq (s : State) (m : Byte) :
    s.axs m =
      { s with
        x := (s.a &&& s.x) - m
        p := { s.p with
               n := ((s.a &&& s.x) - m).getLsbD 7
               z := decide (s.a &&& s.x = m)
               c := decide (m.toNat ≤ (s.a &&& s.x).toNat) } } := by
  simp only [← sub_eq_zero (a := s.a &&& s.x)]
  rfl

/-- The carry that is rotated in becomes bit 7. -/
theorem rcr_value_bit7 (v : Byte) (c : Bool) : (rcr v c).value.getLsbD 7 = c := by
  have hv := v.isLt
  rw [bit7_eq, rcr_value_toNat]
  cases c with
  | false => rw [Bool.toNat_false, decide_eq_false_iff_not]; omega
  | true => rw [Bool.toNat_true, decide_eq_true_iff]; omega

theorem State.arr_binary {s : State} (h : s.decimalOn = false) (m : Byte) : s.arr m = s.arrBinary m := by
  simp [State.arr, h]

/-- ARR in binary puts the old carry in N, as bit 7 of the rotated byte (44_illegal_opcodes.md R258). -/
theorem State.arrBinary_eq (s : State) (m : Byte) :
    s.arrBinary m =
      { s with
        a := (rcr (s.a &&& m) s.p.c).value
        p := { s.p with
               n := s.p.c
               z := decide ((rcr (s.a &&& m) s.p.c).value = 0)
               c := (s.a &&& m).getLsbD 7
               v := s.freeBit .v } } := by
  simp only [State.arrBinary, State.move, State.setNZ, State.setP, State.set, Flags.setNZ, rcr_value_bit7]

theorem actsOnA_arr : ActsOnA State.arr := State.arr_frame

/-- ARR completes, in binary and in decimal, and changes A and the flags N, V, Z, C alone. -/
theorem exec_arr (nn : Byte) (s : State) :
    exec (.arr nn) s = .next
      { s with
        a := (s.arr nn).a
        p := { (s.arr nn).p with d := s.p.d, i := s.p.i }
        pc := s.pc + 2 } := by
  rw [exec_of_immediate (g := State.arr) rfl, actsOnA_arr.advance]
  rfl

/-- Settles O57: what R258 to R260 leave to the part is witnessed by the free values that the model puts there. -/
theorem immediateIllegalOpcodes : Obligations.ImmediateIllegalOpcodes := by
  intro s nn t u
  refine ⟨fun i hi => ?anc, ?alr, ?axs, fun hbinary => ?arrBinary, ⟨_, _, _, _, _, exec_arr nn s⟩, ⟨_, _, _, rfl⟩,
    ⟨_, _, _, rfl⟩⟩
  case anc =>
    have hexec : exec i s = .next (withOperand State.anc (.imm nn) s) := by fin_cases hi <;> rfl
    rw [exec_of_immediate hexec, State.anc_eq]
    rfl
  case alr =>
    rw [exec_of_immediate (g := State.alr) rfl, State.alr_eq]
    rfl
  case axs =>
    rw [exec_of_immediate (g := State.axs) rfl, State.axs_eq]
    rfl
  case arrBinary =>
    refine ⟨_, s.freeBit .v, rcr_value_toNat t s.p.c, ?_⟩
    rw [exec_arr, State.arr_binary (State.decimalOn_eq_false hbinary), State.arrBinary_eq]

/-! ## Unstable stores -/

theorem pointerReads_set_sp (f : AddrForm) (s : State) (v : Byte) :
    f.pointerReads (s.set .sp v) = f.pointerReads s := by
  cases f <;> rfl

/-- Settles O58: each row is the unstable store of its form, after S took its new value, which moves neither the target
nor the pointer. -/
theorem unstableStoresWriteOneByte : Obligations.UnstableStoresWriteOneByte := by
  intro s nn nnnn f hf
  obtain ⟨hexec, hlen⟩ : exec f.1 s = .next (unstableStore f.2.1 (s.set .sp f.2.2)) ∧
      f.1.length = f.2.1.length := by
    fin_cases hf <;> exact ⟨rfl, rfl⟩
  refine ⟨unstableTarget f.2.1 s, s.freeByte .stored, _, hexec, ?_, ?_, unstableTarget_of_same_page⟩
  · rw [unstableStore_eq, unstableTarget_set_sp, pointerReads_set_sp, State.pcAfter, hlen]
    rfl
  · rw [unstableStore_eq, unstableTarget_set_sp]
    exact sameBytes_of_write rfl rfl rfl

/-! ## NOP and KIL -/

/-- Settles O59: the NOPs are `advance` by one or two bytes and `readOnly`, the twelve KIL are `halt`. -/
theorem illegalNopsOnlyFetchAndKilHalts : Obligations.IllegalNopsOnlyFetchAndKilHalts := by
  intro s nn nnnn
  refine ⟨fun i hi => ?_, fun i hi => ?_, fun f hf => ?_, fun i hi => ?_⟩
  · show exec i s = .next (s.advance 1)
    fin_cases hi <;> rfl
  · show exec i s = .next (s.advance 2)
    fin_cases hi <;> rfl
  · obtain ⟨hexec, hlen⟩ : exec f.1 s = .next (readOnly f.2 s) ∧ f.1.length = f.2.length := by
      fin_cases hf <;> exact ⟨rfl, rfl⟩
    rw [hexec, readOnly_eq, State.pcAfter, hlen]
  · show exec i s = .next s.halt
    fin_cases hi <;> rfl

end Sys2Proof.Machine
end

section
/-! PROOF. The events: the choice at a boundary, RESET, the entry of NMI and IRQ, the I that the IRQ test sees, and the
return from an entry (O7, O12, O13, O14, O16, O19). -/

namespace Sys2Proof.Machine

/-! ## The choice at a boundary, and the step it leads to (60_exceptions.md R320) -/

section
variable {s : State}

/-- The IRQ test: /IRQ LOW on a part that has the pin, and the effective I clear. -/
theorem State.irqTest_iff :
    (s.irqLow && !s.effectiveI) = true ↔ s.cfg.irqPin = true ∧ s.lines.irq = .low ∧ s.effectiveI = false := by
  simp [State.irqLow, and_assoc]

theorem State.choice_of_reset (h : s.lines.reset = .low) : s.choice = .reset := if_pos h

theorem State.choice_of_nmi (hr : s.lines.reset = .high) (hh : s.halted = false) (hn : s.nmiPending = true) :
    s.choice = .nmi := by
  simp [State.choice, hr, hh, hn]

theorem State.choice_of_no_nmi (hr : s.lines.reset = .high) (hh : s.halted = false) (hn : s.nmiPending = false) :
    s.choice = if s.irqLow && !s.effectiveI then .irq else .instruction := by
  simp [State.choice, hr, hh, hn]

theorem State.choice_eq_halted_iff : s.choice = .halted ↔ s.halted = true ∧ s.lines.reset = .high := by
  refine ⟨fun h => ?_, fun ⟨hh, hr⟩ => State.choice_of_halted hh hr⟩
  cases hr : s.lines.reset with
  | low => cases (State.choice_of_reset hr).symm.trans h
  | high =>
    cases hh : s.halted with
    | true => exact ⟨rfl, rfl⟩
    | false =>
      cases hn : s.nmiPending with
      | true => cases (State.choice_of_nmi hr hh hn).symm.trans h
      | false =>
        rw [State.choice_of_no_nmi hr hh hn] at h
        split at h <;> cases h

theorem step_of_reset (h : s.boundary.lines.reset = .low) : step s = .next s.boundary.begun.resetSequence := by
  simp only [step, State.choice_of_reset h]

theorem step_of_halted (hr : s.boundary.lines.reset = .high) (hh : s.halted = true) :
    step s = if s.inputs = [] then .fault .stuck else .next s.boundary.begun := by
  have hchoice : s.boundary.choice = .halted := State.choice_of_halted (s.boundary_halted.trans hh) hr
  simp only [step, hchoice, List.isEmpty_iff]

theorem step_of_nmi (hr : s.boundary.lines.reset = .high) (hh : s.halted = false)
    (hn : s.boundary.nmiPending = true) : step s = .next s.boundary.begun.takeNmi := by
  simp only [step, State.choice_of_nmi hr (s.boundary_halted.trans hh) hn]

theorem step_of_irq (hr : s.boundary.lines.reset = .high) (hh : s.halted = false)
    (hn : s.boundary.nmiPending = false)
    (hi : s.cfg.irqPin = true ∧ s.boundary.lines.irq = .low ∧ s.boundary.effectiveI = false) :
    step s = .next s.boundary.begun.takeIrq := by
  rw [← s.boundary_cfg, ← State.irqTest_iff] at hi
  simp only [step, State.choice_of_no_nmi hr (s.boundary_halted.trans hh) hn, if_pos hi]

theorem step_of_no_event (hr : s.boundary.lines.reset = .high) (hh : s.halted = false)
    (hn : s.boundary.nmiPending = false)
    (hi : ¬(s.cfg.irqPin = true ∧ s.boundary.lines.irq = .low ∧ s.boundary.effectiveI = false)) :
    step s = exec s.boundary.fetched s.boundary.afterFetch := by
  rw [← s.boundary_cfg, ← State.irqTest_iff] at hi
  exact step_of_instruction ((State.choice_of_no_nmi hr (s.boundary_halted.trans hh) hn).trans (if_neg hi))

end

/-- No instruction faults: each completes, or is a ROR that the part lacks. -/
theorem exec_ne_fault (i : Instr) (s : State) (e : Fault) : exec i s ≠ .fault e := by
  intro h
  have hp := exec_performed i s
  rw [h] at hp
  cases hp

/-- A step faults exactly where the choice is `halted` with no pin change left. -/
theorem step_fault_iff (s : State) :
    (∃ e, step s = .fault e) ↔ s.halted = true ∧ s.boundary.lines.reset = .high ∧ s.inputs = [] := by
  constructor
  · rintro ⟨e, h⟩
    simp only [step] at h
    split at h
    · cases h
    · next hchoice =>
      obtain ⟨hh, hr⟩ := State.choice_eq_halted_iff.1 hchoice
      split at h
      · next hinputs => exact ⟨s.boundary_halted.symm.trans hh, hr, List.isEmpty_iff.1 hinputs⟩
      · cases h
    · cases h
    · cases h
    · exact absurd h (exec_ne_fault _ _ e)
  · rintro ⟨hh, hr, hinputs⟩
    exact ⟨.stuck, by rw [step_of_halted hr hh, if_pos hinputs]⟩

/-- Settles O7, clause by clause. -/
theorem stepFollowsTheOrderOfEvents : Obligations.StepFollowsTheOrderOfEvents := fun s =>
  ⟨step_of_reset, step_of_halted, step_of_nmi, step_of_irq, step_of_no_event, step_fault_iff s⟩

/-! ## RESET -/

/-- Settles O12: the fields of `resetSequence`, the vector read in the state at the boundary. -/
theorem resetGoesThroughItsVector : Obligations.ResetGoesThroughItsVector := by
  intro s h
  refine ⟨_, step_of_reset h, rfl, ?_, ?_, ?_, ?_, rfl⟩
  · rw [State.resetSequence_p]
  · exact State.resetSequence_halted _
  · exact State.resetSequence_nmiPending _
  · rw [State.resetSequence_mem, State.begun_mem, State.boundary_mem]

/-! ## NMI and IRQ -/

/-- Settles O13: both vectors stand in page FFh. -/
theorem interruptEntrySavesAndVectors : Obligations.InterruptEntrySavesAndVectors := by
  intro s vector b ret hvector
  rcases List.mem_pair.1 hvector with rfl | rfl
  · exact s.interruptEntered_of_high b ret (by decide) (by decide)
  · exact s.interruptEntered_of_high b ret (by decide) (by decide)

/-- An entry neither saves nor reads the latch of /NMI and the remembered I. -/
theorem InterruptEntered.of_latches {s t : State} {vector ret : Word} {b pending : Bool} {late : Option Bool}
    (h : InterruptEntered { s with nmiPending := pending, lateI := late } t vector b ret) :
    InterruptEntered s t vector b ret := h

theorem State.interruptEntered_takeNmi (s : State) : InterruptEntered s s.begun.takeNmi 0xFFFA false s.pc :=
  .of_latches (interruptEntrySavesAndVectors { s.begun with nmiPending := false } nmiVector false s.pc (by simp))

theorem State.interruptEntered_takeIrq (s : State) : InterruptEntered s s.begun.takeIrq 0xFFFE false s.pc :=
  .of_latches (interruptEntrySavesAndVectors s.begun irqVector false s.pc (by simp))

@[simp] theorem State.takeNmi_nmiPending (s : State) : s.takeNmi.nmiPending = false := State.interrupt_nmiPending ..

@[simp] theorem State.takeIrq_nmiPending (s : State) : s.takeIrq.nmiPending = s.nmiPending :=
  State.interrupt_nmiPending ..

/-- Settles O14: each is the entry from the boundary, whose PC is still that of the instruction not yet run. -/
theorem nmiAndIrqAreTakenAtABoundary : Obligations.NmiAndIrqAreTakenAtABoundary := by
  intro s hr hh
  rw [← s.boundary_pc]
  refine ⟨fun hn => ?_, fun hn hpin hlow hi => ?_⟩
  · exact ⟨_, step_of_nmi hr hh hn, State.takeNmi_nmiPending _, s.boundary.interruptEntered_takeNmi⟩
  · refine ⟨_, step_of_irq hr hh hn ⟨hpin, hlow, hi⟩, ?_, s.boundary.interruptEntered_takeIrq⟩
    rw [State.takeIrq_nmiPending, State.begun_nmiPending, hn]

/-! ## The I that the IRQ test sees (60_exceptions.md R325) -/

theorem State.effectiveI_of_none {s : State} (h : s.cfg.irqLatency = .immediate ∨ s.lateI = none) :
    s.effectiveI = s.p.i := by
  unfold State.effectiveI
  split
  · next hlatency hlate =>
    rw [hlatency, hlate] at h
    simp at h
  · rfl
  · rfl

theorem State.effectiveI_of_some {s : State} {old : Bool} (h : s.lateI = some old) :
    s.effectiveI = old ∨ s.effectiveI = s.p.i := by
  unfold State.effectiveI
  rw [h]
  split
  · next hlate =>
    cases hlate
    split
    · exact .inl rfl
    · exact .inr rfl
  · exact .inr rfl
  · exact .inr rfl

@[simp] theorem State.adc_lateI (s : State) (m : Byte) : (s.adc m).lateI = s.lateI := by rw [State.adc_frame]

@[simp] theorem State.sbc_lateI (s : State) (m : Byte) : (s.sbc m).lateI = s.lateI := by rw [State.sbc_frame]

@[simp] theorem State.arr_lateI (s : State) (m : Byte) : (s.arr m).lateI = s.lateI := by rw [State.arr_frame]

@[simp] theorem branch_lateI (taken : Bool) (dd : Byte) (s : State) : (branch taken dd s).lateI = s.lateI := by
  rw [branch_eq]

/-- CLI, SEI and PLP remember the I of before; the other outcomes leave what is remembered. -/
theorem Performed.lateI_eq {s t : State} {r : Row} (h : Performed s (.next t) r) :
    t.lateI = if r.mnemonic ∈ [.CLI, .SEI, .PLP] then some s.p.i else s.lateI := by
  cases h with
  | cli | sei | plp => simp
  | adc | sbc | arr | rra | isc => simp [withOperand_eq, shiftThen_eq, stepThen_eq, State.rmw_eq]
  | asl | lsr | rol | ror => simp [shiftMem_eq]
  | bpl | bmi | bvc | bvs | bcc | bcs | bne | beq => simp
  | jsr | rts | rti | brk => simp
  | _ => rfl

/-- Settles O16: the test by the cases of `effectiveI`, the three instructions by the outcomes of `exec`. -/
theorem irqTestSeesOldOrNewI : Obligations.IrqTestSeesOldOrNewI :=
  ⟨fun _ => State.effectiveI_of_none, fun _ _ => State.effectiveI_of_some,
    fun _ _ _ h => (performed_of_exec h).lateI_eq⟩

/-! ## RTI after an entry -/

/-- Settles O19: the three bytes that RTI pulls are, upwards from S, the three that the entry pushed. -/
theorem rtiUndoesAnInterruptEntry : Obligations.RtiUndoesAnInterruptEntry := by
  intro s u vector b ret hw hs hsp hframe
  obtain ⟨hhi, hlo, hp⟩ := State.read_interrupt_frame hw hs vector b ret .stack
  have husp : u.sp = s.sp - 1 - 1 - 1 := hsp.trans (State.interrupt_sp ..)
  have h1 : u.sp + 1 = s.sp - 1 - 1 := by rw [husp, sub_add_cancel]
  have h2 : u.sp + 2 = s.sp - 1 := by rw [husp, sub_sub (s.sp - 1)]; exact sub_add_cancel (s.sp - 1) 2
  have h3 : u.sp + 3 = s.sp := by rw [husp, sub_sub, sub_sub]; exact sub_add_cancel s.sp 3
  refine ⟨_, exec_rti u, ?_, ?_, ?_, u.returnFromInterrupt_a, u.returnFromInterrupt_x, u.returnFromInterrupt_y,
    u.returnFromInterrupt_mem⟩
  · rw [State.returnFromInterrupt_eq, hframe 2 (by simp), hframe 3 (by simp), h2, h3, hlo, hhi, wordOf_halves]
  · rw [State.returnFromInterrupt_p, State.pulled, hframe 1 (by simp), h1, hp, Flags.ofByte_pByte]
  · rw [State.returnFromInterrupt_eq, h3]

end Sys2Proof.Machine
end

section
/-! PROOF. Page crossings: the two readings of an indexed address's crossing (O29), and the cycles of a branch (O60). -/

namespace Sys2Proof.Machine

/-! ## Pages -/

theorem hiByte_eq_iff (v w : Word) : hiByte v = hiByte w ↔ v.toNat / 256 = w.toNat / 256 := by
  rw [← BitVec.toNat_inj, hiByte_toNat, hiByte_toNat]

/-- Page 0 is where a byte, as an address, lies (30_encoding.md R97). -/
theorem hiByte_zext16 (v : Byte) : hiByte (zext16 v) = 0 := by
  apply BitVec.eq_of_toNat_eq
  rw [hiByte_toNat, zext16_toNat]
  exact Nat.div_eq_of_lt v.isLt

/-! ## Indexing -/

/-- The two wordings of 70_reset_and_hazards.md R360. An index is at most FFh, so it carries into the next page or stays;
past FFFFh the next page is page 0. -/
theorem hiByte_add_zext16_ne_iff (base : Word) (i : Byte) :
    hiByte (base + zext16 i) ≠ hiByte base ↔ 0xFF < (loByte base).toNat + i.toNat := by
  have hbase := base.isLt
  have hi := i.isLt
  rw [Ne, hiByte_eq_iff, add_zext16_toNat, loByte_toNat]
  omega

/-- Settles O29: the forms indexed modulo 10000h cross as `hiByte_add_zext16_ne_iff` says; the zero-page forms stay in
page 0, and the others add nothing to their base. -/
theorem crossingAPageChangesTheHighByte : Obligations.CrossingAPageChangesTheHighByte := by
  intro f s
  cases f with
  | abx nnnn => exact decide_eq_true_iff.trans (hiByte_add_zext16_ne_iff nnnn s.x).symm
  | aby nnnn => exact decide_eq_true_iff.trans (hiByte_add_zext16_ne_iff nnnn s.y).symm
  | izy nn => exact decide_eq_true_iff.trans (hiByte_add_zext16_ne_iff (s.pointerAt nn) s.y).symm
  | zpx nn | zpy nn => simp [AddrForm.crossesPage, AddrForm.ea, AddrForm.base, hiByte_zext16]
  | zp nn | abs nnnn | izx nn => simp [AddrForm.crossesPage, AddrForm.ea, AddrForm.base]

/-! ## Branches -/

theorem samePage_iff (v w : Word) : samePage v w = true ↔ v.toNat / 256 = w.toNat / 256 := by
  rw [samePage, beq_iff_eq, hiByte_eq_iff]

/-- The rule of 70_reset_and_hazards.md R361, in numbers: the page of the target is compared with that of `a + 2`. -/
theorem branchCycles_eq (taken : Bool) (dd : Byte) (s : State) :
    branchCycles taken dd s =
      if taken then if (s.pc.toNat + 2) % 65536 / 256 = (s.branchTarget dd).toNat / 256 then 3 else 4 else 2 := by
  have hnext : (s.pc + 2).toNat = (s.pc.toNat + 2) % 65536 := BitVec.toNat_add s.pc 2
  simp only [branchCycles, samePage_iff, hnext]

/-- Settles O60: each row is timed by the branch rule, taken where its flag has the value beside it. -/
theorem branchesTakeTwoToFourCycles : Obligations.BranchesTakeTwoToFourCycles := by
  intro s dd
  refine ⟨s.branchTarget_toNat dd, fun f hf => ?_⟩
  have hcycles : cycles f.1 s = some (branchCycles (f.2.1 == f.2.2) dd s) := by
    fin_cases hf <;> simp only [beq_false, beq_true] <;> rfl
  rw [hcycles, branchCycles_eq]
  simp only [beq_iff_eq]

end Sys2Proof.Machine
end
